-- ==== Sys2Proof/Word.lean ====
section
/-! DEFINITION. The plain words of the DJ-610: bytes, and the end of the seconds count. -/

namespace Sys2Proof

/-- One byte of a wire (R170, R188). -/
abbrev Byte := BitVec 8

/-- The largest value of the seconds count, 2^32 - 1 (section 6 of 00_scope.md, R124). -/
def maxSecond : Nat := 4294967295

end Sys2Proof
end

