-- ==== Sys2Proof/Syntax.lean ====
section
/-! DEFINITION. The commands: one constructor of `Instr` for each row of spec/opcode_table.json, in the table's order. -/

namespace Sys2Proof

/-- What every Order Link command carries beside its fields: the TAG of its frame and the length of its body, KIND and
TAG included (R171, R183). -/
structure Hdr where
  tag : BitVec 8
  len : Nat
  deriving DecidableEq, Repr

/-- One item of a BATCH DATA frame: a decoder address and a product index (R61, R185). -/
structure BatchEntry where
  addr : BitVec 32
  product : BitVec 8
  deriving DecidableEq, Repr

/-- The commands of the part. Rows that are Order Link commands carry their fields at the widths of R184, R185 and R190.
A row whose KIND has several rows also carries the form or action byte as received; a byte that no row of the KIND names
stands in the KIND's first row (log 19). -/
inductive Instr where
  /-- SET (R165): identifier and value. -/
  | set (h : Hdr) (id : BitVec 8) (value : BitVec 32)
  /-- GET (R166): identifier. -/
  | get (h : Hdr) (id : BitVec 8)
  /-- SAVE SETTINGS (R167). -/
  | saveSettings (h : Hdr)
  /-- The write of SAVE SETTINGS completes (R167). -/
  | saveSettingsWriteComplete
  /-- CLOCK SET (R127): seconds and milliseconds. -/
  | clockSet (h : Hdr) (seconds : BitVec 32) (ms : BitVec 16)
  /-- CLOCK ADVANCE (R128). -/
  | clockAdvance (h : Hdr) (n : BitVec 8)
  /-- CLOCK HOLD (R129). -/
  | clockHold (h : Hdr) (n : BitVec 8)
  /-- REGION RULE, set form (R24). -/
  | regionRuleSet (h : Hdr) (form idx : BitVec 8) (pattern mask : BitVec 24) (region : BitVec 8)
  /-- REGION RULE, clear form (R24). -/
  | regionRuleClear (h : Hdr) (form idx : BitVec 8)
  /-- EVENT (R15): index, S_o, K, E, L, g, A. -/
  | event (h : Hdr) (idx : BitVec 8) (so k e : BitVec 32) (late grace allow : BitVec 16)
  /-- EVENT TIMES (R16). -/
  | eventTimes (h : Hdr) (idx : BitVec 8) (so k e : BitVec 32)
  /-- BLACKOUT (R26): event and region set. -/
  | blackout (h : Hdr) (idx : BitVec 8) (regions : BitVec 64)
  /-- PRODUCT, define form (R19): index, kind code and event list. -/
  | productDefine (h : Hdr) (form idx kind : BitVec 8) (events : List (BitVec 8))
  /-- PRODUCT, drop form (R20). -/
  | productDrop (h : Hdr) (form idx : BitVec 8)
  /-- CUE BIND (R138): line, event, action code, level code, debounce time. -/
  | cueBind (h : Hdr) (line ev action level : BitVec 8) (debounce : BitVec 16)
  /-- CUE CLEAR UNBIND (R139). -/
  | cueClearUnbind (h : Hdr) (line form : BitVec 8)
  /-- CUE CLEAR RELEASE (R139). -/
  | cueClearRelease (h : Hdr) (line form : BitVec 8)
  /-- KEEPALIVE (R151): part number and part value. -/
  | keepalive (h : Hdr) (part value : BitVec 8)
  /-- MAINTENANCE ENTER (R156). -/
  | maintenanceEnter (h : Hdr) (form : BitVec 8)
  /-- MAINTENANCE EXIT (R156). -/
  | maintenanceExit (h : Hdr) (form : BitVec 8)
  /-- EVENT ACTION OPEN SALE (R6, R17). -/
  | eventActionOpenSale (h : Hdr) (idx action : BitVec 8)
  /-- EVENT ACTION KICKOFF (R7, R17). -/
  | eventActionKickoff (h : Hdr) (idx action : BitVec 8)
  /-- EVENT ACTION OVERTIME (R8, R17). -/
  | eventActionOvertime (h : Hdr) (idx action : BitVec 8)
  /-- EVENT ACTION SUSPEND (R9, R17). -/
  | eventActionSuspend (h : Hdr) (idx action : BitVec 8)
  /-- EVENT ACTION RESUME (R10, R17). -/
  | eventActionResume (h : Hdr) (idx action : BitVec 8)
  /-- EVENT ACTION FINISH (R11, R17). -/
  | eventActionFinish (h : Hdr) (idx action : BitVec 8)
  /-- EVENT ACTION VOID (R13, R17). -/
  | eventActionVoid (h : Hdr) (idx action : BitVec 8)
  /-- PURCHASE (R51 to R55): decoder address and product. -/
  | purchase (h : Hdr) (addr : BitVec 32) (product : BitVec 8)
  /-- CANCEL (R57). -/
  | cancel (h : Hdr) (addr : BitVec 32) (product : BitVec 8)
  /-- BATCH OPEN (R60): operation code and item count. -/
  | batchOpen (h : Hdr) (op : BitVec 8) (count : BitVec 16)
  /-- BATCH DATA (R61, R69): the items of the frame. -/
  | batchData (h : Hdr) (items : List BatchEntry)
  /-- One item of the BATCH DATA frame in service (R62). -/
  | batchItem
  /-- BATCH END (R64). -/
  | batchEnd (h : Hdr)
  /-- STATUS (R177). -/
  | status (h : Hdr)
  /-- SHOW EVENT (R28). -/
  | showEvent (h : Hdr) (idx : BitVec 8)
  /-- SHOW PRODUCT (R29). -/
  | showProduct (h : Hdr) (idx : BitVec 8)
  /-- SHOW RECORD (R48): block and product. -/
  | showRecord (h : Hdr) (block : BitVec 32) (product : BitVec 8)
  /-- SHOW DECODER (R49): decoder address. -/
  | showDecoder (h : Hdr) (addr : BitVec 32)
  /-- NOTICES (R180). -/
  | notices (h : Hdr)
  /-- RESET TABLES (R163). -/
  | resetTables (h : Hdr) (form : BitVec 8)
  /-- RESET FULL (R163). -/
  | resetFull (h : Hdr) (form : BitVec 8)
  /-- A frame whose KIND names no command (R174). -/
  | unknownKind (h : Hdr) (kind : BitVec 8)
  /-- RESET TABLES acts after its reply (R163). -/
  | resetTablesActs
  /-- RESET FULL acts after its reply (R163, R164). -/
  | resetFullActs
  /-- Release of power-on reset; the levels of POLICY1 and POLICY0 (R158, R164). -/
  | powerOn (policy1 policy0 : Bool)
  /-- RESET_N goes low (R96). -/
  | resetLineAsserted
  /-- Release of RESET_N; the levels of POLICY1 and POLICY0 (R158, R164). -/
  | resetLine (policy1 policy0 : Bool)
  /-- The configuring-window timer expires (R149). -/
  | configuringWindowExpiry
  /-- The byte that completes a frame (R171). -/
  | frameCompletes (b : BitVec 8)
  /-- A LEN byte out of range (R172). -/
  | lenOutOfRange (b : BitVec 8)
  /-- A gap of more than 10 character times inside a frame (R172). -/
  | byteGapExpiry
  /-- 4 character times of idle in HUNT (R171). -/
  | huntArmed
  /-- The last byte of the frame being sent goes out (R174, R175). -/
  | replySent
  /-- The idle timer of the open batch expires (R67). -/
  | batchIdleTimeout
  /-- The milliseconds pass 999 (R125). -/
  | msRollover
  /-- The Mark List takes one step of a firing pass (R134). -/
  | markFiring
  /-- The Pacing Unit takes a second mark (R78 to R81, R89). -/
  | windowStep
  /-- The Emission Arbiter takes a second mark (R105, R107). -/
  | announceIntervalCheck
  /-- The rate interval (R75, R76). -/
  | rateInterval
  /-- A rising edge on PPS (R130 to R132). -/
  | pulse
  /-- 3,000 ms without a pulse (R132). -/
  | lossTimerExpiry
  /-- Hold remaining reaches 0 (R129). -/
  | holdExpires
  /-- One visit of the running sweep job (R116, R119). -/
  | sweepVisit
  /-- A rising edge on CP_GNT when the local oscillator reads `at` microseconds (R95). -/
  | slotGrant (us : Nat)
  /-- 2,000 ms without an answered grant (R97). -/
  | starvationTimerExpiry
  /-- The level of a cue pin becomes `level`, true for HIGH (R140, R147). -/
  | cuePinChange (line : Nat) (level : Bool)
  /-- The debounce timer of a line expires when the local oscillator reads `ms` milliseconds (R140). -/
  | debounceExpiry (line : Nat) (ms : Nat)
  /-- The cooling timer of a line expires (R144). -/
  | coolingTimerExpiry (line : Nat)
  /-- The settling timer of the reserved line 0 expires (R147). -/
  | settlingTimerExpiry
  /-- The supervision period elapses (R154). -/
  | periodTimerExpiry
  /-- The quiet timer expires (R159). -/
  | quietTimerExpiry
  /-- A byte arrives on OL_RXD (R171). -/
  | byteReceived (b : BitVec 8)
  /-- One CP_SCK clock (R96). -/
  | frameClock
  /-- The supply is lost (R167). -/
  | powerLoss
  deriving DecidableEq, Repr

end Sys2Proof
end

