-- ==== Sys2Proof/Decode.lean ====
section
/-! DEFINITION. Reading commands: `decodeTableWord` over the table's bits (the table gives none), the command that the
body of a received frame spells, and the body that a command spells (R183 to R185, R190). -/

namespace Sys2Proof

/-- spec/opcode_table.json gives no row any bits, so no word spells a row (log 25). -/
def decodeTableWord (_nbits _w : Nat) : Option Instr := none

/-! ### Fields of a body, most significant byte first (R182); a byte that the body does not have reads as 0 -/

/-- The byte at offset k. -/
def byteAt (bytes : List Byte) (k : Nat) : Byte := bytes.getD k 0

/-- The two-byte field at offset k. -/
def be16 (bytes : List Byte) (k : Nat) : BitVec 16 := byteAt bytes k ++ byteAt bytes (k + 1)

/-- The three-byte field at offset k. -/
def be24 (bytes : List Byte) (k : Nat) : BitVec 24 := byteAt bytes k ++ be16 bytes (k + 1)

/-- The four-byte field at offset k. -/
def be32 (bytes : List Byte) (k : Nat) : BitVec 32 := be16 bytes k ++ be16 bytes (k + 2)

/-- The eight-byte field at offset k. -/
def be64 (bytes : List Byte) (k : Nat) : BitVec 64 := be32 bytes k ++ be32 bytes (k + 4)

/-- The items of a BATCH DATA frame, five bytes each (R61, R185). -/
def itemsOf : List Byte → List BatchEntry
  | a :: b :: c :: d :: p :: rest => ⟨be32 [a, b, c, d] 0, p⟩ :: itemsOf rest
  | _ => []

/-- The EVENT ACTION row of an action code (R187): a code that names no action stands in the first row (log 19). -/
def eventActionOf (h : Hdr) (idx action : Byte) : Instr :=
  match action.toNat with
  | 2 => .eventActionKickoff h idx action
  | 3 => .eventActionOvertime h idx action
  | 4 => .eventActionSuspend h idx action
  | 5 => .eventActionResume h idx action
  | 6 => .eventActionFinish h idx action
  | 7 => .eventActionVoid h idx action
  | _ => .eventActionOpenSale h idx action

/-- The command of a KIND byte, with the fields `f` that follow TAG (R183, R184, R185, R190). Offsets are those of the
spec less 2. -/
def commandOf (kind : Byte) (h : Hdr) (f : List Byte) : Instr :=
  match kind.toNat with
  | 0x01 => .set h (byteAt f 0) (be32 f 1)
  | 0x02 => .get h (byteAt f 0)
  | 0x03 => .saveSettings h
  | 0x04 => .clockSet h (be32 f 0) (be16 f 4)
  | 0x05 => .clockAdvance h (byteAt f 0)
  | 0x06 => .clockHold h (byteAt f 0)
  | 0x07 =>
    if byteAt f 0 = 2 then .regionRuleClear h (byteAt f 0) (byteAt f 1)
    else .regionRuleSet h (byteAt f 0) (byteAt f 1) (be24 f 2) (be24 f 5) (byteAt f 8)
  | 0x08 => .event h (byteAt f 0) (be32 f 1) (be32 f 5) (be32 f 9) (be16 f 13) (be16 f 15) (be16 f 17)
  | 0x09 => .eventTimes h (byteAt f 0) (be32 f 1) (be32 f 5) (be32 f 9)
  | 0x0A => .blackout h (byteAt f 0) (be64 f 1)
  | 0x0B =>
    if byteAt f 0 = 2 then .productDrop h (byteAt f 0) (byteAt f 1)
    else .productDefine h (byteAt f 0) (byteAt f 1) (byteAt f 2) (f.drop 3)
  | 0x0C => .cueBind h (byteAt f 0) (byteAt f 1) (byteAt f 2) (byteAt f 3) (be16 f 4)
  | 0x0D =>
    if byteAt f 1 = 2 then .cueClearRelease h (byteAt f 0) (byteAt f 1)
    else .cueClearUnbind h (byteAt f 0) (byteAt f 1)
  | 0x0E => .keepalive h (byteAt f 0) (byteAt f 1)
  | 0x0F => if byteAt f 0 = 2 then .maintenanceExit h (byteAt f 0) else .maintenanceEnter h (byteAt f 0)
  | 0x10 => eventActionOf h (byteAt f 0) (byteAt f 1)
  | 0x11 => .purchase h (be32 f 0) (byteAt f 4)
  | 0x12 => .cancel h (be32 f 0) (byteAt f 4)
  | 0x13 => .batchOpen h (byteAt f 0) (be16 f 1)
  | 0x14 => .batchData h (itemsOf f)
  | 0x15 => .batchEnd h
  | 0x16 => .status h
  | 0x17 => .showEvent h (byteAt f 0)
  | 0x18 => .showProduct h (byteAt f 0)
  | 0x19 => .showRecord h (be32 f 0) (byteAt f 4)
  | 0x1A => .showDecoder h (be32 f 0)
  | 0x1B => .notices h
  | 0x1C => if byteAt f 0 = 2 then .resetFull h (byteAt f 0) else .resetTables h (byteAt f 0)
  | _ => .unknownKind h kind

/-- The command that the body of a frame spells; none for a body too short to hold KIND and TAG, which no good frame
has (R171). -/
def decodeFrame (body : List Byte) : Option Instr :=
  match body with
  | kind :: tag :: f => some (commandOf kind ⟨tag, body.length⟩ f)
  | _ => none

/-! ### The body of a command -/

/-- The bytes of a field, most significant first (R182). -/
def bytes16 (v : BitVec 16) : List Byte := [v.extractLsb' 8 8, v.extractLsb' 0 8]
/-- Three bytes. -/
def bytes24 (v : BitVec 24) : List Byte := [v.extractLsb' 16 8, v.extractLsb' 8 8, v.extractLsb' 0 8]
/-- Four bytes. -/
def bytes32 (v : BitVec 32) : List Byte := bytes16 (v.extractLsb' 16 16) ++ bytes16 (v.extractLsb' 0 16)
/-- Eight bytes. -/
def bytes64 (v : BitVec 64) : List Byte := bytes32 (v.extractLsb' 32 32) ++ bytes32 (v.extractLsb' 0 32)

/-- An Order Link command's KIND byte, header, and field bytes after TAG; none for the rows that are no command of the
link (R183). -/
def linkFrame : Instr → Option (Byte × Hdr × List Byte)
  | .set h id v => some (0x01, h, id :: bytes32 v)
  | .get h id => some (0x02, h, [id])
  | .saveSettings h => some (0x03, h, [])
  | .clockSet h sec ms => some (0x04, h, bytes32 sec ++ bytes16 ms)
  | .clockAdvance h n => some (0x05, h, [n])
  | .clockHold h n => some (0x06, h, [n])
  | .regionRuleSet h form i p m r => some (0x07, h, [form, i] ++ bytes24 p ++ bytes24 m ++ [r])
  | .regionRuleClear h form i => some (0x07, h, [form, i])
  | .event h i so k e l g a =>
    some (0x08, h, [i] ++ bytes32 so ++ bytes32 k ++ bytes32 e ++ bytes16 l ++ bytes16 g ++ bytes16 a)
  | .eventTimes h i so k e => some (0x09, h, [i] ++ bytes32 so ++ bytes32 k ++ bytes32 e)
  | .blackout h i r => some (0x0A, h, i :: bytes64 r)
  | .productDefine h form i k es => some (0x0B, h, [form, i, k] ++ es)
  | .productDrop h form i => some (0x0B, h, [form, i])
  | .cueBind h l e a v d => some (0x0C, h, [l, e, a, v] ++ bytes16 d)
  | .cueClearUnbind h l form => some (0x0D, h, [l, form])
  | .cueClearRelease h l form => some (0x0D, h, [l, form])
  | .keepalive h p v => some (0x0E, h, [p, v])
  | .maintenanceEnter h form => some (0x0F, h, [form])
  | .maintenanceExit h form => some (0x0F, h, [form])
  | .eventActionOpenSale h i a => some (0x10, h, [i, a])
  | .eventActionKickoff h i a => some (0x10, h, [i, a])
  | .eventActionOvertime h i a => some (0x10, h, [i, a])
  | .eventActionSuspend h i a => some (0x10, h, [i, a])
  | .eventActionResume h i a => some (0x10, h, [i, a])
  | .eventActionFinish h i a => some (0x10, h, [i, a])
  | .eventActionVoid h i a => some (0x10, h, [i, a])
  | .purchase h addr p => some (0x11, h, bytes32 addr ++ [p])
  | .cancel h addr p => some (0x12, h, bytes32 addr ++ [p])
  | .batchOpen h op n => some (0x13, h, op :: bytes16 n)
  | .batchData h items => some (0x14, h, items.flatMap fun x => bytes32 x.addr ++ [x.product])
  | .batchEnd h => some (0x15, h, [])
  | .status h => some (0x16, h, [])
  | .showEvent h i => some (0x17, h, [i])
  | .showProduct h i => some (0x18, h, [i])
  | .showRecord h b p => some (0x19, h, bytes32 b ++ [p])
  | .showDecoder h a => some (0x1A, h, bytes32 a)
  | .notices h => some (0x1B, h, [])
  | .resetTables h form => some (0x1C, h, [form])
  | .resetFull h form => some (0x1C, h, [form])
  | .unknownKind h kind => some (kind, h, [])
  | .saveSettingsWriteComplete | .batchItem | .resetTablesActs | .resetFullActs | .powerOn _ _ | .resetLineAsserted
  | .resetLine _ _ | .configuringWindowExpiry | .frameCompletes _ | .lenOutOfRange _ | .byteGapExpiry | .huntArmed
  | .replySent | .batchIdleTimeout | .msRollover | .markFiring | .windowStep | .announceIntervalCheck | .rateInterval
  | .pulse | .lossTimerExpiry | .holdExpires | .sweepVisit | .slotGrant _ | .starvationTimerExpiry
  | .cuePinChange _ _ | .debounceExpiry _ _ | .coolingTimerExpiry _ | .settlingTimerExpiry | .periodTimerExpiry
  | .quietTimerExpiry | .byteReceived _ | .frameClock | .powerLoss => none

/-- The body of a command's frame: KIND, TAG and the fields, cut or filled with zeros to the body length (R183). -/
def encodeFrame (c : Instr) : Option (List Byte) :=
  (linkFrame c).map fun (kind, h, f) => kind :: h.tag :: (f ++ List.replicate (h.len - 2) 0).take (h.len - 2)

end Sys2Proof
end

