-- ==== Sys2Proof/Config.lean ====
section
/-! DEFINITION. What the spec leaves open: opaque constants without a body, so that nothing can be proved of their values. -/

namespace Sys2Proof

/-- FREE VALUE. The n-th value of the challenge generator, whose sequence R150 does not give; the model folds it into
1..254 without the challenge it replaces. Log 8. -/
opaque Config.challengeSource : Nat → Nat

/-- FREE VALUE. Which of several due steps comes next, where the spec says that either may be first. Log 2. -/
opaque Config.dueChoice : Nat → Nat

/-- FREE VALUE. Whether the VOID request of a report reaches the Sweep Walker before its PURGE request: R113 gives no
order. Log 7. -/
opaque Config.voidBeforePurge : Nat → Bool

/-- FREE VALUE. The time in ms that a write of the stored copy takes when it starts at a local time: R167 says up to 40,
and the model cuts it there. Log 16. -/
opaque Config.writeTime : Nat → Nat

/-- FREE VALUE. What a four-byte field of seconds carries when the time it stands for lies past 4,294,967,295, which
only a bound or mark F + g can do. Log 18. -/
opaque Config.overwideSecond : Nat → BitVec 32

end Sys2Proof
end

