-- ==== Sys2Proof/Machine/State.lean ====
section
/-! DEFINITION. The state of the DJ-610 as plain data, block by block as section 3 of 00_scope.md lists them, and the
state after reset. -/

namespace Sys2Proof.Machine

/-! ### Names shared by several blocks -/

/-- The operating modes (R148). -/
inductive Mode where
  | configuring | serving | maintenance | holdover | standdown
  deriving DecidableEq, Repr

/-- The holdover policies (R158). -/
inductive Policy where
  | carry | stretch | quietStanddown | cueStanddown
  deriving DecidableEq, Repr

/-- The states of an event other than EMPTY (R1). -/
inductive EvState where
  | planned | onSale | live | overtime | suspended | ended | closed | void
  deriving DecidableEq, Repr

/-- The cause of a transition, as EVENT_STATE carries it (R4). -/
inductive Cause where
  | command | cue | timer
  deriving DecidableEq, Repr

/-- The requested transitions: the seven actions of EVENT ACTION (R17, R187), and CLOSE, which only a mark requests (R12). -/
inductive Action where
  | openSale | kickoff | overtime | suspend | resume | finish | void | close
  deriving DecidableEq, Repr

/-- The bound of an event or a product: a closed value in seconds, open, or none (R2, R22). -/
inductive Bound where
  | closedAt (t : Nat) | openEnd | noBound
  deriving DecidableEq, Repr

/-- The kinds of sweep job, in the order in which pending jobs start (R112, R115). -/
inductive JobKind where
  | void | purge | extend
  deriving DecidableEq, Repr

/-- The status of a reply (R175, R183). -/
inductive Status where
  | done | doneClamped | duplicate | partTaken
  | unknownKind | badLength | badField | wrongMode | wrongState | noProduct | noEvent | notOnSale | closed
  | blackedOut | storeFull | notHeld | inUse | clockUnset | faultEarly | faultValue
  deriving DecidableEq, Repr

/-! ### Event Table, Mark List, Product Table, Region Map -/

/-- What SUSPEND records: the suspend start and the state before suspension (R9). -/
structure Suspension where
  seconds : Nat
  ms : Nat
  before : EvState
  deriving DecidableEq, Repr

/-- An Event Table entry that is not EMPTY (R1). Fields absent outside their condition are options. -/
structure EventEntry where
  state : EvState
  saleOpen : Nat
  kickoff : Nat
  nominalEnd : Nat
  late : Nat
  grace : Nat
  allowance : Nat
  extension : Nat
  actualKickoff : Option Nat
  finish : Option Nat
  suspension : Option Suspension
  blackout : BitVec 64
  cueBound : Bool
  lastAnnounced : Option Nat
  deriving DecidableEq, Repr

/-- The kinds of pending mark (R133). -/
inductive MarkKind where
  | saleOpen | kickoff | finish | close
  deriving DecidableEq, Repr

/-- A pending mark (R133); `finish` is the spec's END. -/
structure Mark where
  event : Nat
  kind : MarkKind
  time : Nat
  deriving DecidableEq, Repr

/-- SINGLE or PASS (R18). -/
inductive ProductKind where
  | single | pass
  deriving DecidableEq, Repr

/-- ALIVE or DEAD (R18). -/
inductive Life where
  | alive | dead
  deriving DecidableEq, Repr

/-- What a defined product holds (R18). -/
structure ProductDef where
  kind : ProductKind
  events : List Nat
  bound : Bound
  life : Life
  deriving DecidableEq, Repr

/-- A Product Table entry: its definition, absent while undefined, and its record count (R18). -/
structure ProductEntry where
  defn : Option ProductDef
  records : Nat
  deriving DecidableEq, Repr

/-- A set Region Map rule (R24). -/
structure RegionRule where
  pattern : BitVec 20
  mask : BitVec 20
  region : Nat
  deriving DecidableEq, Repr

/-! ### Grant Store -/

/-- The key of a grant record: block and product (R31). -/
structure Key where
  block : Nat
  product : Nat
  deriving DecidableEq, Repr

/-- The service list a record stands in, with the due time a RING record has and the copies left a REVOKING record has
(R30, R32). -/
inductive Place where
  | prompt
  | ring (due : Nat)
  | revoking (copies : Nat)
  deriving DecidableEq, Repr

/-- A record's last horizon with its clamped flag (R30). -/
structure Stamp where
  horizon : Nat
  clamped : Bool
  deriving DecidableEq, Repr

/-- A grant record (R30). -/
structure GrantRecord where
  key : Key
  map : BitVec 64
  place : Place
  stamp : Option Stamp
  emissions : Nat
  deriving DecidableEq, Repr

/-- The Grant Store: the records in ascending key order, the three service lists as orders of keys, head first, and the
store-high flag (R31, R32, R35). -/
structure GrantStore where
  records : List GrantRecord
  prompt : List Key
  ring : List Key
  revoking : List Key
  highArmed : Bool
  deriving DecidableEq, Repr

/-! ### Pacing Unit, Emission Arbiter, Carousel Port, Sweep Walker -/

/-- The Pacing Unit (R74), and the time to the next rate interval (R75). -/
structure Pacing where
  slotCount : Nat
  lastCount : Nat
  seeded : Bool
  a16 : Nat
  capacity : Nat
  window : Nat
  stretched : Bool
  overload : Bool
  lapses : Nat
  lapseTotal : Nat
  rateIn : Nat
  deriving DecidableEq, Repr

/-- The content of a carousel frame between its sequence number and its CRC (R188). -/
inductive FrameBody where
  | filler
  | grant (product block : Nat) (map : BitVec 64) (horizon : Nat) (revokeCopy clamped : Bool) (copiesLeft : Nat)
  | announce (event : Nat) (state : EvState) (products : BitVec 48) (blackout : BitVec 64) (bound : Bound)
  | time (seconds ms : Nat) (locked : Bool)
  deriving DecidableEq, Repr

/-- A carousel frame (R188). Its CRC-32 is a function of the rest (R189). -/
structure CarouselFrame where
  seq : BitVec 16
  body : FrameBody
  deriving DecidableEq, Repr

/-- The transfer of the Carousel Port (R94, R96). -/
inductive Transfer where
  | idle
  | shifting (frame : CarouselFrame) (left : Nat)
  deriving DecidableEq, Repr

/-- The Carousel Port (R94): the last-grant time in microseconds of the local oscillator, the transfer, the level of
CP_SDO and the bit last sent on it (R96, log 22), and the starvation timer in ms. -/
structure Port where
  lastGrant : Option Nat
  transfer : Transfer
  sdo : Bool
  lastBit : Bool
  starvation : Option Nat
  starved : Bool
  deriving DecidableEq, Repr

/-- The Emission Arbiter (R98). -/
structure Arbiter where
  announcements : List Nat
  timePending : Bool
  retired : BitVec 32
  seq : BitVec 16
  deriving DecidableEq, Repr

/-- The running job; `position` is none at START (R112). -/
structure Job where
  kind : JobKind
  products : BitVec 48
  position : Option Key
  changed : Nat
  deriving DecidableEq, Repr

/-- The Sweep Walker: the running job and at most one pending job of each kind, as its product set (R112). -/
structure Walker where
  running : Option Job
  pendingVoid : Option (BitVec 48)
  pendingPurge : Option (BitVec 48)
  pendingExtend : Option (BitVec 48)
  deriving DecidableEq, Repr

/-! ### Broadcast Clock -/

/-- The Broadcast Clock (R124); `hold` is hold remaining in ms, 0 for no hold. -/
structure Clock where
  seconds : Nat
  ms : Nat
  isSet : Bool
  locked : Bool
  lossReported : Bool
  offPhase : Nat
  loss : Option Nat
  hold : Nat
  deriving DecidableEq, Repr

/-- Second marks raised and not yet taken by their receivers (R126): the now_s of each mark the Mark List has to take,
oldest first, whether it is inside a firing pass for the oldest (R134), and how many the Pacing Unit and the Emission
Arbiter have to take. The model's own fields (log 12). -/
structure SecondMarks where
  passes : List Nat
  inPass : Bool
  window : Nat
  announce : Nat
  deriving DecidableEq, Repr

/-! ### Cue Monitor -/

/-- The actions a cue line may be bound with (R137). -/
inductive CueAction where
  | kickoff | finish | overtime | hold
  deriving DecidableEq, Repr

/-- A line's binding; levels are true for HIGH, times in ms (R137). -/
structure Binding where
  event : Nat
  action : CueAction
  active : Bool
  debounce : Nat
  deriving DecidableEq, Repr

/-- The state of a line with the fields that state gives it (R137). -/
inductive LineState where
  | unbound
  | armed (reference : Bool) (debounce : Option Nat) (history : List Nat)
  | cooling (left : Nat)
  | lockedOut
  deriving DecidableEq, Repr

/-- A last capture; `intoActive` is its direction (R137). -/
structure Capture where
  seconds : Nat
  ms : Nat
  intoActive : Bool
  deriving DecidableEq, Repr

/-- A line context (R137). -/
structure CueLine where
  state : LineState
  binding : Option Binding
  episodes : Nat
  lastCapture : Option Capture
  deriving DecidableEq, Repr

/-- The Cue Monitor: eight contexts, the pin levels, and the asserted condition and settling timer of a reserved line 0
(R137, R147). -/
structure CueMonitor where
  lines : List CueLine
  pins : BitVec 8
  asserted : Bool
  settling : Option Nat
  deriving DecidableEq, Repr

/-! ### Settings Store and Supervision Unit -/

/-- The 38 settings of R191, in its order. Enumerated settings hold their codes; `levels` holds the 21 notice levels. -/
structure Settings where
  linkRate : Nat
  configWindow : Nat
  supervisionPeriod : Nat
  windowMode : Nat
  maintenancePeriod : Nat
  partsCount : Nat
  faultLimit : Nat
  quietTime : Nat
  windowConfigured : Nat
  guard : Nat
  refreshShare : Nat
  revocationCopies : Nat
  kickoffTolerance : Nat
  announceInterval : Nat
  defaultRegion : Nat
  linkThreshold : Nat
  attnThreshold : Nat
  levels : List Nat
  deriving DecidableEq, Repr

/-- The values in force of the settings whose effect is deferred (R168). `partsCount` is the parts in force of R148 and
`linkRate` the link rate in force of R169. -/
structure InForce where
  linkRate : Nat
  configWindow : Nat
  supervisionPeriod : Nat
  windowMode : Nat
  maintenancePeriod : Nat
  partsCount : Nat
  announceInterval : Nat
  deriving DecidableEq, Repr

/-- The Settings Store (R164 to R168). `stored` is none while the stored copy fails its check; `writing` is the snapshot
of a SAVE SETTINGS write under way and the ms it has left. -/
structure SettingsStore where
  current : Settings
  inForce : InForce
  stored : Option Settings
  writing : Option (Settings × Nat)
  deriving DecidableEq, Repr

/-- A running supervision period: its length and the time elapsed, in ms (R148, R153). -/
structure Period where
  length : Nat
  elapsed : Nat
  deriving DecidableEq, Repr

/-- The Supervision Unit (R148). Timers are in ms. The parts in force are in `InForce`. -/
structure Supervision where
  mode : Mode
  policy : Policy
  challenge : Nat
  collection : Nat
  faults : Nat
  period : Option Period
  windowOn : Bool
  configTimer : Option Nat
  quiet : Option Nat
  deriving DecidableEq, Repr

/-! ### Notice Queue -/

/-- The causes of a supervision fault (R154). -/
inductive FaultCause where
  | value | early | missed
  deriving DecidableEq, Repr

/-- The 21 kinds of notice, in the order of their codes 1..21 (R192). -/
inductive NoticeKind where
  | configTimeout | settingsDefaulted | supervisionFault | holdoverEntered | standdownEntered | serviceResumed
  | linkDegraded | referenceLost | referenceRestored | eventState | extensionCapped | cueChatter | cueLockedOut
  | cueIgnored | windowStretched | windowRelaxed | carouselOverload | carouselStarved | lapse | sweepDone | storeHigh
  deriving DecidableEq, Repr

/-- The subject of a notice (R178). -/
inductive Subject where
  | none | event (i : Nat) | line (i : Nat) | product (i : Nat)
  deriving DecidableEq, Repr

/-- The value of a notice: one quantity, or a composite of R187. -/
inductive NoticeValue where
  | quantity (n : Nat)
  | fault (cause : FaultCause) (count : Nat)
  | holdover (link : Bool)
  | standdown (cue : Bool)
  | resumed (left : Mode)
  | eventState (state : EvState) (cause : Cause)
  | requested (action : Action)
  | sweep (kind : JobKind) (changed : Nat)
  deriving DecidableEq, Repr

/-- A queued notice (R178). -/
structure Notice where
  kind : NoticeKind
  level : Nat
  seconds : Nat
  ms : Nat
  subject : Subject
  value : NoticeValue
  deriving DecidableEq, Repr

/-- The Notice Queue (R178, R179, R181). -/
structure NoticeQueue where
  queue : List Notice
  overflow : Bool
  attn : Bool
  deriving DecidableEq, Repr

/-! ### Order Link -/

/-- The refused counts of a batch (R59). -/
structure RefusedCounts where
  badField : Nat
  noProduct : Nat
  notOnSale : Nat
  closed : Nat
  blackedOut : Nat
  storeFull : Nat
  notHeld : Nat
  deriving DecidableEq, Repr

/-- The open-batch context (R59); `cancels` is true for the operation CANCEL, `idle` the ms left on the idle timer. -/
structure Batch where
  cancels : Bool
  count : Nat
  tag : BitVec 8
  taken : Nat
  accepted : Nat
  partly : Nat
  duplicates : Nat
  refused : RefusedCounts
  surplus : Nat
  listed : List (Nat × Status)
  idle : Nat
  deriving DecidableEq, Repr

/-- How a batch closed, as the flags of its summary tell it (R70). -/
inductive SummaryFlag where
  | terminal | endedEarly | cut | timedOut
  deriving DecidableEq, Repr

/-- The service list of a record, as replies name it (R55, R186). -/
inductive ListName where
  | prompt | ring | revoking
  deriving DecidableEq, Repr

/-- The content of a STATUS reply (R177). -/
structure StatusReport where
  mode : Mode
  policy : Policy
  challenge : Nat
  faults : Nat
  seconds : Nat
  ms : Nat
  isSet : Bool
  locked : Bool
  linkErrors : Nat
  records : Nat
  promptLength : Nat
  ringLength : Nat
  revokingLength : Nat
  window : Nat
  capacity : Nat
  a16 : Nat
  demand : Bool
  lapseTotal : Nat
  queued : Nat
  overflow : Bool
  running : Option JobKind
  pendingVoid : Bool
  pendingPurge : Bool
  pendingExtend : Bool
  seq : BitVec 16
  lastCount : Nat
  deriving DecidableEq, Repr

/-- The fields of a reply after its status byte (R185, R186, R190). -/
inductive ReplyFields where
  | none
  | settingWritten (id : BitVec 8) (value : Nat)
  | settingRead (id : BitVec 8) (value inForce : Nat)
  | seconds (s : Nat)
  | eventAction (state : EvState) (bound : Bound)
  | batchOpened (cancels : Bool) (count : Nat)
  | cueContext (before : CueLine)
  | keepalive (challenge parts : Nat)
  | purchase (partlyBlacked : Bool) (region : Option Nat) (list : Option ListName)
  | cancelled (copies : Nat) (empty : Bool)
  | status (r : StatusReport)
  | event (i : Nat) (e : EventEntry) (bound : Bound) (mark : Option Mark) (products : BitVec 48)
      (lines : List (Nat × CueAction))
  | product (i : Nat) (d : ProductDef) (records : Nat) (events : List (Nat × Option EvState × Bound))
  | record (r : GrantRecord) (position : Nat)
  | decoder (entries : List (Nat × ListName × Option Nat))
  | notices (taken : List Notice) (remaining : Nat) (overflow : Bool)
  | summary (flag : SummaryFlag) (b : Batch)
  deriving DecidableEq, Repr

/-- A reply record: the KIND and TAG bytes of its body, its status and fields (R175). -/
structure Reply where
  kind : BitVec 8
  tag : BitVec 8
  status : Status
  fields : ReplyFields
  deriving DecidableEq, Repr

/-- A frame at the transmitter; `ends` says that its last byte ends the service of the command in service (R174). -/
structure Outgoing where
  reply : Reply
  ends : Bool
  deriving DecidableEq, Repr

/-- What the command in service still needs: its reply sent, its write done, or the items of its frame (R174). -/
inductive Work where
  | replying
  | writing
  | items (left : List BatchEntry)
  deriving DecidableEq, Repr

/-- The command in service (R169, R174). -/
structure Service where
  kind : BitVec 8
  tag : BitVec 8
  work : Work
  deriving DecidableEq, Repr

/-- The framing state of the receiver (R169): the frame in assembly holds every byte since START. -/
inductive Framing where
  | hunt (armed : Bool)
  | inFrame (bytes : List Byte)
  deriving DecidableEq, Repr

/-- The forms of RESET (R163). -/
inductive ResetForm where
  | tables | full
  deriving DecidableEq, Repr

/-- The Order Link (R169). `lastByte` is the local time of the last byte, in ms; `holding` keeps the bodies of the held
frames, oldest first; `tx` the frames of the transmitter, the one being sent first; `resetDue` the RESET taken that has
not yet acted (R163). -/
structure Link where
  framing : Framing
  lastByte : Nat
  holding : List (List Byte)
  errors : Nat
  service : Option Service
  tx : List Outgoing
  unsolicited : Option Reply
  batch : Option Batch
  resetDue : Option ResetForm
  deriving DecidableEq, Repr

/-! ### The machine -/

/-- Whether the part runs, is held by RESET_N low, or has no supply (R96, R167). -/
inductive RunState where
  | running | heldInReset | unpowered
  deriving DecidableEq, Repr

/-- The state of the part, and the queue of the commands that wait for it, first in first out. `osc` is the time of the
local oscillator in ms; `draws` and `choices` are the model's own counters that select free values (logs 8, 2 and 7). -/
structure State where
  run : RunState
  osc : Nat
  draws : Nat
  choices : Nat
  sup : Supervision
  settings : SettingsStore
  clock : Clock
  marks : List Mark
  due : SecondMarks
  events : List (Option EventEntry)
  products : List ProductEntry
  regions : List (Option RegionRule)
  store : GrantStore
  pacing : Pacing
  arbiter : Arbiter
  port : Port
  walker : Walker
  cues : CueMonitor
  link : Link
  notices : NoticeQueue
  pending : List Instr
  deriving DecidableEq, Repr

/-- The faults of the part: none. The spec has no condition that halts it; a refused command is a reply status and a
condition is a notice (R175, R178). -/
inductive Fault where
  deriving DecidableEq, Repr

/-- Refusals. -/
inductive Refusal where
  /-- Raised by an arm of `exec` whose row has no meaning yet; safe, since the run stops. No arm raises it. -/
  | notModelled (mnemonic : String)
  deriving DecidableEq, Repr

/-! ### The state after reset -/

/-- The default settings (R191, R192). -/
def Settings.defaults : Settings where
  linkRate := 2
  configWindow := 120
  supervisionPeriod := 2000
  windowMode := 0
  maintenancePeriod := 30
  partsCount := 1
  faultLimit := 2
  quietTime := 480
  windowConfigured := 60
  guard := 8
  refreshShare := 50
  revocationCopies := 2
  kickoffTolerance := 600
  announceInterval := 5
  defaultRegion := 0
  linkThreshold := 31
  attnThreshold := 3
  levels := [1, 1, 2, 0, 0, 1, 1, 2, 3, 4, 3, 3, 1, 4, 4, 5, 1, 2, 5, 5, 2]

/-- The values in force right after a load of settings (R164 step 3). -/
def InForce.ofSettings (c : Settings) : InForce where
  linkRate := c.linkRate
  configWindow := c.configWindow
  supervisionPeriod := c.supervisionPeriod
  windowMode := c.windowMode
  maintenancePeriod := c.maintenancePeriod
  partsCount := c.partsCount
  announceInterval := c.announceInterval

/-- The Broadcast Clock after power-on, the reset line and RESET FULL (R124). -/
def Clock.start : Clock := ⟨0, 0, false, false, false, 0, none, 0⟩

/-- No second mark outstanding. -/
def SecondMarks.idle : SecondMarks := ⟨[], false, 0, 0⟩

/-- The Event Table with every entry EMPTY (R1). -/
def emptyEvents : List (Option EventEntry) := List.replicate 32 none

/-- The Product Table with every entry undefined (R18). -/
def emptyProducts : List ProductEntry := List.replicate 48 ⟨none, 0⟩

/-- The Region Map with every rule unset (R24). -/
def emptyRegions : List (Option RegionRule) := List.replicate 32 none

/-- The empty Grant Store (R50). -/
def GrantStore.empty : GrantStore := ⟨[], [], [], [], true⟩

/-- The Pacing Unit after power-on, the reset line and RESET FULL (R74, R75). -/
def Pacing.start (window : Nat) : Pacing := ⟨0, 0, false, 0, 0, window, false, false, 0, 0, 1000⟩

/-- The Emission Arbiter after power-on, the reset line and RESET FULL (R98). -/
def Arbiter.start : Arbiter := ⟨[], false, 0, 0⟩

/-- The Carousel Port after power-on and the reset line (R94, R96). -/
def Port.start : Port := ⟨none, .idle, false, false, none, false⟩

/-- The Sweep Walker with no job (R112). -/
def Walker.idle : Walker := ⟨none, none, none, none⟩

/-- An UNBOUND line (R137). -/
def CueLine.unbound : CueLine := ⟨.unbound, none, 0, none⟩

/-- The Order Link after power-on, the reset line and RESET FULL, at local time `osc`, which stands for the last byte's
time until a byte comes (R169; log 33). -/
def Link.start (osc : Nat) : Link := ⟨.hunt false, osc, [], 0, none, [], none, none, none⟩

/-- The Notice Queue after power-on, the reset line and RESET FULL (R179, R181). -/
def NoticeQueue.empty : NoticeQueue := ⟨[], false, false⟩

/-- The notice that R164 step 5 posts when the stored copy fails its check, with default levels, at broadcast time 0. -/
def settingsDefaultedAtStart : Notice := ⟨.settingsDefaulted, 1, 0, 0, .none, .quantity 0⟩

/-- The part right after the release of power-on reset, with both straps low and a stored copy that has never been
written, so that its check fails and the defaults are loaded (R164; logs 8, 9 and 10). -/
def State.reset : State where
  run := .running
  osc := 0
  draws := 0
  choices := 0
  sup :=
    { mode := .configuring, policy := .carry, challenge := 1, collection := 0, faults := 0, period := none,
      windowOn := false, configTimer := some 120000, quiet := none }
  settings :=
    { current := .defaults, inForce := .ofSettings .defaults, stored := none, writing := none }
  clock := .start
  marks := []
  due := .idle
  events := emptyEvents
  products := emptyProducts
  regions := emptyRegions
  store := .empty
  pacing := .start 60
  arbiter := .start
  port := .start
  walker := .idle
  cues := { lines := List.replicate 8 .unbound, pins := 0, asserted := false, settling := none }
  link := .start 0
  notices := { queue := [settingsDefaultedAtStart], overflow := false, attn := true }
  pending := []

/-! ### Replacing one block -/

/-- Replace the Supervision Unit. -/
def State.withSup (s : State) (x : Supervision) : State := { s with sup := x }
/-- Replace the Settings Store. -/
def State.withSettings (s : State) (x : SettingsStore) : State := { s with settings := x }
/-- Replace the Broadcast Clock. -/
def State.withClock (s : State) (x : Clock) : State := { s with clock := x }
/-- Replace the Mark List. -/
def State.withMarks (s : State) (x : List Mark) : State := { s with marks := x }
/-- Replace the outstanding second marks. -/
def State.withDue (s : State) (x : SecondMarks) : State := { s with due := x }
/-- Replace the Event Table. -/
def State.withEvents (s : State) (x : List (Option EventEntry)) : State := { s with events := x }
/-- Replace the Product Table. -/
def State.withProducts (s : State) (x : List ProductEntry) : State := { s with products := x }
/-- Replace the Region Map. -/
def State.withRegions (s : State) (x : List (Option RegionRule)) : State := { s with regions := x }
/-- Replace the Grant Store. -/
def State.withStore (s : State) (x : GrantStore) : State := { s with store := x }
/-- Replace the Pacing Unit. -/
def State.withPacing (s : State) (x : Pacing) : State := { s with pacing := x }
/-- Replace the Emission Arbiter. -/
def State.withArbiter (s : State) (x : Arbiter) : State := { s with arbiter := x }
/-- Replace the Carousel Port. -/
def State.withPort (s : State) (x : Port) : State := { s with port := x }
/-- Replace the Sweep Walker. -/
def State.withWalker (s : State) (x : Walker) : State := { s with walker := x }
/-- Replace the Cue Monitor. -/
def State.withCues (s : State) (x : CueMonitor) : State := { s with cues := x }
/-- Replace the Order Link. -/
def State.withLink (s : State) (x : Link) : State := { s with link := x }
/-- Replace the Notice Queue. -/
def State.withNotices (s : State) (x : NoticeQueue) : State := { s with notices := x }
/-- Replace the queue of waiting commands. -/
def State.withPending (s : State) (x : List Instr) : State := { s with pending := x }

end Sys2Proof.Machine
end

