-- ==== Sys2Proof/Machine/Operands.lean ====
section
/-! DEFINITION. What a command carries and when the Order Link lets it through: KIND, mode table, body lengths, field
ranges, and the settings by identifier. -/

namespace Sys2Proof.Machine

/-! ### KIND, mode and length (R174, R176, R183) -/

/-- The KIND byte of a command; 0 for the rows that are no command of the link. -/
def kindOf (c : Instr) : Byte := ((linkFrame c).map fun x => x.1).getD 0

/-- TAG and body length of a command. -/
def hdrOf (c : Instr) : Hdr := ((linkFrame c).map fun x => x.2.1).getD ⟨0, 0⟩

/-- A command of this kind cuts an open batch: every kind but BATCH DATA, BATCH END, KEEPALIVE, STATUS, NOTICES and
RESET (R65). -/
def cutsBatch (kind : Byte) : Bool := !([0x14, 0x15, 0x0E, 0x16, 0x1B, 0x1C].contains kind.toNat)

/-- The kinds every mode serves: GET, KEEPALIVE, STATUS, the four show commands, NOTICES, RESET (R176). -/
def alwaysServed : List Nat := [0x02, 0x0E, 0x16, 0x17, 0x18, 0x19, 0x1A, 0x1B, 0x1C]

/-- The kinds that SERVING serves beside those, MAINTENANCE read as ENTER (R176). -/
def servingKinds : List Nat := [0x01, 0x03, 0x05, 0x06, 0x0A, 0x0C, 0x0D, 0x0F, 0x10, 0x11, 0x12, 0x13, 0x14, 0x15]

/-- The mode table of R176, by KIND. -/
def modeServes (m : Mode) (kind : Nat) : Bool :=
  alwaysServed.contains kind ||
  match m with
  | .configuring => [0x01, 0x03, 0x04, 0x07, 0x08, 0x09, 0x0A, 0x0B, 0x0C, 0x0D].contains kind
  | .serving => servingKinds.contains kind
  | .maintenance => (servingKinds ++ [0x07, 0x08, 0x09, 0x0B]).contains kind
  | .holdover | .standdown => false

/-- The mode check of R176; MAINTENANCE EXIT is served in MAINTENANCE alone. -/
def servedIn (m : Mode) : Instr → Bool
  | .maintenanceExit .. => m == .maintenance
  | c => modeServes m (kindOf c).toNat

/-- A PRODUCT definition's body: five bytes and 1..16 event indexes (R183). -/
def defineLength (n : Nat) : Bool := 6 ≤ n && n ≤ 21

/-- The body lengths of R183. A form byte outside the two codes lets through a length that suits either form. -/
def lengthOk : Instr → Bool
  | .set h .. => h.len == 7
  | .get h .. => h.len == 3
  | .saveSettings h => h.len == 2
  | .clockSet h .. => h.len == 8
  | .clockAdvance h _ => h.len == 3
  | .clockHold h _ => h.len == 3
  | .regionRuleSet h form .. => h.len == 11 || (form != 1 && h.len == 4)
  | .regionRuleClear h .. => h.len == 4
  | .event h .. => h.len == 21
  | .eventTimes h .. => h.len == 15
  | .blackout h .. => h.len == 11
  | .productDefine h form .. => defineLength h.len || (form != 1 && h.len == 4)
  | .productDrop h .. => h.len == 4
  | .cueBind h .. => h.len == 8
  | .cueClearUnbind h .. => h.len == 4
  | .cueClearRelease h .. => h.len == 4
  | .keepalive h .. => h.len == 4
  | .maintenanceEnter h _ => h.len == 3
  | .maintenanceExit h _ => h.len == 3
  | .eventActionOpenSale h .. => h.len == 4
  | .eventActionKickoff h .. => h.len == 4
  | .eventActionOvertime h .. => h.len == 4
  | .eventActionSuspend h .. => h.len == 4
  | .eventActionResume h .. => h.len == 4
  | .eventActionFinish h .. => h.len == 4
  | .eventActionVoid h .. => h.len == 4
  | .purchase h .. => h.len == 7
  | .cancel h .. => h.len == 7
  | .batchOpen h .. => h.len == 5
  | .batchData h _ => 7 ≤ h.len && h.len ≤ 102 && (h.len - 2) % 5 == 0
  | .batchEnd h => h.len == 2
  | .status h => h.len == 2
  | .showEvent h _ => h.len == 3
  | .showProduct h _ => h.len == 3
  | .showRecord h .. => h.len == 7
  | .showDecoder h _ => h.len == 6
  | .notices h => h.len == 2
  | .resetTables h _ => h.len == 3
  | .resetFull h _ => h.len == 3
  | _ => true

/-! ### Field ranges -/

/-- The block of a decoder address (section 6 of 00_scope.md). -/
def blockOf (addr : BitVec 32) : Nat := (addr.extractLsb' 6 20).toNat

/-- The slot of a decoder address. -/
def slotOf (addr : BitVec 32) : Nat := (addr.extractLsb' 0 6).toNat

/-- The top 6 bits of the address are zero and the product index is 0..47 (R51, R57). -/
def addressOk (addr : BitVec 32) (product : BitVec 8) : Bool := addr.toNat < 67108864 && product.toNat < 48

/-- S_o ≤ K < E and E ≤ 4,294,956,495 (R15). -/
def timesOk (so k e : BitVec 32) : Bool := so.toNat ≤ k.toNat && k.toNat < e.toNat && e.toNat ≤ 4294956495

/-- The ranges of L, g and A, A = 0 selecting the default (R1, R15). -/
def windowsOk (late grace allow : BitVec 16) : Bool :=
  late.toNat ≤ 3600 && grace.toNat ≤ 3600 && (allow.toNat == 0 || (60 ≤ allow.toNat && allow.toNat ≤ 3600))

/-- A bound cue action's code (R184). -/
def cueActionOf (code : BitVec 8) : Option CueAction :=
  match code.toNat with
  | 1 => some .kickoff
  | 2 => some .finish
  | 3 => some .overtime
  | 4 => some .hold
  | _ => none

/-- A product kind's code (R184). -/
def productKindOf (code : BitVec 8) : Option ProductKind :=
  match code.toNat with
  | 1 => some .single
  | 2 => some .pass
  | _ => none

/-- The list length suits the kind (R19). -/
def listSuits (kind : ProductKind) (n : Nat) : Bool :=
  match kind with
  | .single => n == 1
  | .pass => 2 ≤ n && n ≤ 16

/-! ### Keepalive parts (R150) -/

/-- Bits per part: 8, 4 or 2 for 1, 2 or 4 parts. -/
def bitsPerPart (parts : Nat) : Nat := 8 / parts

/-- Part k of the answer 255 - challenge, most significant part first. -/
def expectedPart (challenge parts k : Nat) : Nat :=
  (255 - challenge) / 2 ^ (8 - bitsPerPart parts * k) % 2 ^ bitsPerPart parts

/-! ### Settings by identifier (R190, R191) -/

/-- The value of the setting with this identifier, none where it names no setting. -/
def settingValue (c : Settings) (id : Nat) : Option Nat :=
  match id with
  | 0x01 => some c.linkRate
  | 0x02 => some c.configWindow
  | 0x03 => some c.supervisionPeriod
  | 0x04 => some c.windowMode
  | 0x05 => some c.maintenancePeriod
  | 0x06 => some c.partsCount
  | 0x07 => some c.faultLimit
  | 0x08 => some c.quietTime
  | 0x09 => some c.windowConfigured
  | 0x0A => some c.guard
  | 0x0B => some c.refreshShare
  | 0x0C => some c.revocationCopies
  | 0x0D => some c.kickoffTolerance
  | 0x0E => some c.announceInterval
  | 0x0F => some c.defaultRegion
  | 0x10 => some c.linkThreshold
  | 0x11 => some c.attnThreshold
  | n => if 0x21 ≤ n && n ≤ 0x35 then some (c.levels.getD (n - 0x21) 0) else none

/-- The value in force of the setting: its own for a deferred setting, the current value for the others (R166, R168). -/
def valueInForce (st : SettingsStore) (id : Nat) : Option Nat :=
  match id with
  | 0x01 => some st.inForce.linkRate
  | 0x02 => some st.inForce.configWindow
  | 0x03 => some st.inForce.supervisionPeriod
  | 0x04 => some st.inForce.windowMode
  | 0x05 => some st.inForce.maintenancePeriod
  | 0x06 => some st.inForce.partsCount
  | 0x0E => some st.inForce.announceInterval
  | n => settingValue st.current n

/-- What a setting admits: codes, or a range (R191). -/
inductive Admits where
  | codes (cs : List Nat)
  | range (lo hi : Nat)
  deriving DecidableEq, Repr

/-- The codes or range of each setting, the guard's upper limit taken from the W_cfg current at the SET (R83, R191). -/
def settingAdmits (c : Settings) (id : Nat) : Option Admits :=
  match id with
  | 0x01 => some (.codes [0, 1, 2, 3])
  | 0x02 => some (.range 30 600)
  | 0x03 => some (.range 100 60000)
  | 0x04 => some (.codes [0, 1])
  | 0x05 => some (.range 10 120)
  | 0x06 => some (.codes [1, 2, 4])
  | 0x07 => some (.range 1 4)
  | 0x08 => some (.range 60 3600)
  | 0x09 => some (.range 10 600)
  | 0x0A => some (.range 2 (c.windowConfigured / 4))
  | 0x0B => some (.range 10 90)
  | 0x0C => some (.range 1 4)
  | 0x0D => some (.range 0 1800)
  | 0x0E => some (.range 1 30)
  | 0x0F => some (.range 0 63)
  | 0x10 => some (.range 7 255)
  | 0x11 => some (.range 0 6)
  | n => if 0x21 ≤ n && n ≤ 0x35 then some (.range 0 7) else none

/-- The nearer limit of a range for a value outside it (R165). -/
def clampTo (lo hi v : Nat) : Nat := max lo (min hi v)

/-- The settings with the setting of this identifier at v. -/
def writeSetting (c : Settings) (id v : Nat) : Settings :=
  match id with
  | 0x01 => { c with linkRate := v }
  | 0x02 => { c with configWindow := v }
  | 0x03 => { c with supervisionPeriod := v }
  | 0x04 => { c with windowMode := v }
  | 0x05 => { c with maintenancePeriod := v }
  | 0x06 => { c with partsCount := v }
  | 0x07 => { c with faultLimit := v }
  | 0x08 => { c with quietTime := v }
  | 0x09 => { c with windowConfigured := v }
  | 0x0A => { c with guard := v }
  | 0x0B => { c with refreshShare := v }
  | 0x0C => { c with revocationCopies := v }
  | 0x0D => { c with kickoffTolerance := v }
  | 0x0E => { c with announceInterval := v }
  | 0x0F => { c with defaultRegion := v }
  | 0x10 => { c with linkThreshold := v }
  | 0x11 => { c with attnThreshold := v }
  | n => { c with levels := c.levels.set (n - 0x21) v }

/-- The baud rates of the link rate codes (R170, R191). -/
def baudOf (code : Nat) : Nat :=
  match code with
  | 0 => 115200
  | 1 => 460800
  | 2 => 921600
  | _ => 3000000

end Sys2Proof.Machine
end

