-- ==== Sys2Proof/Machine/Flags.lean ====
section
/-! DEFINITION. Conditions and values that the spec computes from the state: bounds, sellability, regions, demand, the
stretched condition, horizons and due times. -/

namespace Sys2Proof.Machine

/-! ### Bounds (R2, R22) -/

/-- The bound of an event (R2). -/
def EventEntry.bound (e : EventEntry) : Bound :=
  match e.state with
  | .planned | .onSale | .live | .overtime => .closedAt (e.nominalEnd + e.extension + e.grace)
  | .suspended => .openEnd
  | .ended => .closedAt (e.finish.getD 0 + e.grace)
  | .closed | .void => .noBound

/-- The entry with this index, none when EMPTY. -/
def State.event? (s : State) (i : Nat) : Option EventEntry := s.events.getD i none

/-- The bound of an event by index, none when EMPTY (R2). -/
def State.eventBound (s : State) (i : Nat) : Bound :=
  match s.event? i with
  | some e => e.bound
  | none => .noBound

/-- Two bounds of admitted events combined: open wins, then the larger closed value (R22). -/
def Bound.join : Bound → Bound → Bound
  | .openEnd, _ => .openEnd
  | _, .openEnd => .openEnd
  | .closedAt a, .closedAt b => .closedAt (max a b)
  | .closedAt a, .noBound => .closedAt a
  | .noBound, b => b

/-- The bound of a product from the bounds of its admitted events (R22). -/
def productBound (s : State) (events : List Nat) : Bound :=
  events.foldr (fun i b => Bound.join (s.eventBound i) b) .noBound

/-- A recomputation makes the bound grow: closed to a larger closed value, or closed to open (R22). -/
def Bound.grows : Bound → Bound → Bool
  | .closedAt a, .closedAt b => a < b
  | .closedAt _, .openEnd => true
  | _, _ => false

/-- The event is CLOSED or VOID. -/
def State.isOver (s : State) (i : Nat) : Bool :=
  match s.event? i with
  | some e => e.state == .closed || e.state == .void
  | none => false

/-- The event is VOID. -/
def State.isVoid (s : State) (i : Nat) : Bool :=
  match s.event? i with
  | some e => e.state == .void
  | none => false

/-! ### Sets of indexes -/

/-- The set of the indexes below n that f picks, as a bit vector. -/
def setOf (n : Nat) (f : Nat → Bool) : BitVec n :=
  (List.range n).foldl (fun v i => if f i then v ||| BitVec.twoPow n i else v) 0

/-- The definition of a product, none when undefined. -/
def State.product? (s : State) (p : Nat) : Option ProductDef := ((s.products.getD p ⟨none, 0⟩).defn)

/-- The product is defined and its event list contains the event (R21). -/
def State.admits (s : State) (p i : Nat) : Bool :=
  match s.product? p with
  | some d => d.events.contains i
  | none => false

/-- The admitting-product set of an event (R21). -/
def State.admitting (s : State) (i : Nat) : BitVec 48 := setOf 48 fun p => s.admits p i

/-! ### The purchase test (R25, R52 to R54) -/

/-- The event is sellable at second `now` (R52). -/
def EventEntry.sellable (e : EventEntry) (now : Nat) : Bool :=
  match e.state with
  | .onSale => true
  | .live =>
    match e.actualKickoff with
    | some k => now < k + e.late
    | none => false
  | _ => false

/-- The sellable admitted events of a product. -/
def State.sellableOf (s : State) (events : List Nat) : List EventEntry :=
  (events.filterMap s.event?).filter fun e => e.sellable s.clock.seconds

/-- The selling is over for good: every admitted event is ENDED, CLOSED or VOID (R53). -/
def State.sellingOver (s : State) (events : List Nat) : Bool :=
  events.all fun i =>
    match s.event? i with
    | some e => e.state == .ended || e.state == .closed || e.state == .void
    | none => false

/-- A set rule matches a block: every block bit in its care mask equals the pattern bit (R25). -/
def RegionRule.hits (r : RegionRule) (block : BitVec 20) : Bool := (block ^^^ r.pattern) &&& r.mask == 0

/-- The region of a block: the first matching set rule in ascending index, else the default region (R25). -/
def State.regionOf (s : State) (block : Nat) : Nat :=
  match s.regions.findSome? fun r =>
    match r with
    | some rule => if rule.hits (BitVec.ofNat 20 block) then some rule.region else none
    | none => none with
  | some region => region
  | none => s.settings.current.defaultRegion

/-! ### Grant Store (R31, R32, R87) -/

/-- Key order: by block, and within a block by product (R31). -/
def Key.before (a b : Key) : Bool := a.block < b.block || (a.block == b.block && a.product < b.product)

/-- The record with this key. -/
def GrantStore.find (g : GrantStore) (k : Key) : Option GrantRecord := g.records.find? fun r => r.key == k

/-- The due time of a record in the ring (R30). -/
def GrantStore.dueOf (g : GrantStore) (k : Key) : Option Nat :=
  match g.find k with
  | some r =>
    match r.place with
    | .ring due => some due
    | _ => none
  | none => none

/-- The refresh ring is in demand: not empty, and its head's due time is at most now_s (R87). -/
def GrantStore.inDemand (g : GrantStore) (now : Nat) : Bool :=
  match g.ring.head? with
  | some k =>
    match g.dueOf k with
    | some due => due ≤ now
    | none => false
  | none => false

/-- The demand flag (R87). -/
def State.demand (s : State) : Bool := s.store.inDemand s.clock.seconds

/-- The list a place stands for. -/
def Place.listName : Place → ListName
  | .prompt => .prompt
  | .ring _ => .ring
  | .revoking _ => .revoking

/-! ### Horizons and due times (R73, R84 to R86) -/

/-- A sum of seconds cut to the end of the seconds count (R73, R84). -/
def capSecond (n : Nat) : Nat := min n maxSecond

/-- The stamp of a horizon: R84, or R86 where `stretch` holds (HOLDOVER under policy STRETCH). -/
def stampOf (stretch : Bool) (now window : Nat) (bound : Bound) : Stamp :=
  let near := capSecond (now + window)
  let far := if stretch then capSecond (now + 3600) else near
  match bound with
  | .openEnd => ⟨far, false⟩
  | .closedAt b => if b < near then ⟨b, true⟩ else ⟨min b far, false⟩
  | .noBound => ⟨now, true⟩

/-- R86 applies: HOLDOVER under policy STRETCH. -/
def State.stretches (s : State) : Bool := s.sup.mode == .holdover && s.sup.policy == .stretch

/-- The due time the Pacing Unit gives a record that joins the ring, the tail's where that is later (R73). -/
def joiningDue (now window guard : Nat) (tail : Option Nat) : Nat :=
  max (capSecond (now + window - guard)) (tail.getD 0)

/-- An emission counts a lapse: the record's last horizon was not clamped and now_s has reached it (R88). -/
def lapses (stamp : Option Stamp) (now : Nat) : Bool :=
  match stamp with
  | some p => !p.clamped && p.horizon ≤ now
  | none => false

/-! ### Pacing (R76 to R80) -/

/-- The smoothed slot rate after a rate interval with count n (R76). -/
def nextA16 (seeded : Bool) (a16 n : Nat) : Nat :=
  if seeded then ((a16 : Int) + ((16 * (n : Int) - a16).tdiv 8)).toNat else 16 * n

/-- The refresh capacity (R77). -/
def capacityOf (a16 share : Nat) : Nat := a16 * share / 1600

/-- The target window and whether its case is one of overload, from R, C, W_cfg and G (R78). -/
def targetWindow (r c wcfg guard : Nat) : Nat × Bool :=
  if r = 0 then (wcfg, false)
  else if c = 0 then (3600, true)
  else
    let round := (r + c - 1) / c
    if round + guard ≤ 3600 then (max wcfg (round + guard), false) else (3600, true)

/-- One step of W_eff toward the target (R80). -/
def stepWindow (target window : Nat) : Nat := if window ≤ target then target else window - 1

/-! ### Lines, levels, modes -/

/-- Line 0 is reserved under policy CUE_STANDDOWN (R146). -/
def State.reserved (s : State) (line : Nat) : Bool := s.sup.policy == .cueStanddown && line == 0

/-- The modes in which a supervision period runs (R153). -/
def Mode.supervised (m : Mode) : Bool := m == .serving || m == .maintenance

/-- The modes in which the carousel is served in rank order and the starvation timer may run (R97, R100). -/
def Mode.ranked (m : Mode) : Bool := m == .serving || m == .maintenance || m == .holdover

/-- A line is bound to the event with action KICKOFF (R1). -/
def CueLine.kicksOff (l : CueLine) (i : Nat) : Bool :=
  match l.binding with
  | some b => b.event == i && b.action == .kickoff
  | none => false

/-- The kickoff cue bound flag of an event as the Cue Monitor's bindings give it (R1). -/
def CueMonitor.kickoffBound (c : CueMonitor) (i : Nat) : Bool := c.lines.any fun l => l.kicksOff i

/-- A queued notice is urgent under the threshold (R181). -/
def NoticeQueue.urgent (q : NoticeQueue) (threshold : Nat) : Bool := q.queue.any fun n => n.level ≤ threshold

end Sys2Proof.Machine
end

