-- ==== Sys2Proof/Machine/Wire.lean ====
section
/-! DEFINITION. What is on the wires: the CRCs, the carousel frames (R188, R189), the reply records (R183, R185, R186,
R190), the notice records (R187) and the characters of the Order Link (R170). -/

namespace Sys2Proof.Machine

/-! ### Numbers, CRCs -/

/-- A number in k bytes, most significant first (R182). -/
def natBytes : Nat → Nat → List Byte
  | 0, _ => []
  | k + 1, n => natBytes k (n / 256) ++ [BitVec.ofNat 8 n]

/-- A field of seconds in four bytes; past the seconds count it is a free value (log 18). -/
def secondBytes (n : Nat) : List Byte :=
  if n ≤ maxSecond then natBytes 4 n else bytes32 (Config.overwideSecond n)

/-- A field of seconds that may be absent: all ones when it is (R185). -/
def secondBytes? : Option Nat → List Byte
  | some n => secondBytes n
  | none => [0xFF, 0xFF, 0xFF, 0xFF]

/-- A product set in six bytes (R182). -/
def productSetBytes (v : BitVec 48) : List Byte := bytes16 (v.extractLsb' 32 16) ++ bytes32 (v.extractLsb' 0 32)

/-- One bit of a CRC of width w, most significant bit first. -/
def crcBit {w : Nat} (poly crc : BitVec w) : BitVec w := if crc.msb then crc <<< 1 ^^^ poly else crc <<< 1

/-- The CRC-16 of the Order Link (R171). -/
def crc16 (bytes : List Byte) : BitVec 16 :=
  bytes.foldl (fun crc b => (List.range 8).foldl (fun c _ => crcBit 0x1021 c) (crc ^^^ (b ++ (0 : BitVec 8)))) 0xFFFF

/-- The CRC-32 of the carousel frames (R189). -/
def crc32 (bytes : List Byte) : BitVec 32 :=
  ~~~ bytes.foldl
    (fun crc b => (List.range 8).foldl (fun c _ => crcBit 0x04C11DB7 c) (crc ^^^ (b ++ (0 : BitVec 24)))) 0xFFFFFFFF

/-! ### Codes -/

/-- Status codes (R183). -/
def Status.code : Status → Byte
  | .done => 0x00 | .doneClamped => 0x01 | .duplicate => 0x02 | .partTaken => 0x03
  | .unknownKind => 0x10 | .badLength => 0x11 | .badField => 0x12 | .wrongMode => 0x13 | .wrongState => 0x14
  | .noProduct => 0x15 | .noEvent => 0x16 | .notOnSale => 0x17 | .closed => 0x18 | .blackedOut => 0x19
  | .storeFull => 0x1A | .notHeld => 0x1B | .inUse => 0x1C | .clockUnset => 0x1D | .faultEarly => 0x1E
  | .faultValue => 0x1F

/-- Mode codes (R185). -/
def Mode.code : Mode → Byte
  | .configuring => 0 | .serving => 1 | .maintenance => 2 | .holdover => 3 | .standdown => 4

/-- Strap numbers (R158). -/
def Policy.code : Policy → Byte
  | .carry => 0 | .stretch => 1 | .quietStanddown => 2 | .cueStanddown => 3

/-- Event state codes (R187). -/
def EvState.code : EvState → Byte
  | .planned => 1 | .onSale => 2 | .live => 3 | .overtime => 4 | .suspended => 5 | .ended => 6 | .closed => 7 | .void => 8

/-- Cause codes (R187). -/
def Cause.code : Cause → Byte
  | .command => 1 | .cue => 2 | .timer => 3

/-- Requested action codes (R187); CLOSE, which no command or cue requests, has none. -/
def Action.code : Action → Byte
  | .openSale => 1 | .kickoff => 2 | .overtime => 3 | .suspend => 4 | .resume => 5 | .finish => 6 | .void => 7 | .close => 0

/-- Sweep kind codes (R185). -/
def JobKind.code : JobKind → Byte
  | .void => 1 | .purge => 2 | .extend => 3

/-- Mark kind codes (R186). -/
def MarkKind.code : MarkKind → Byte
  | .saleOpen => 1 | .kickoff => 2 | .finish => 3 | .close => 4

/-- Bound cue action codes (R184). -/
def CueAction.code : CueAction → Byte
  | .kickoff => 1 | .finish => 2 | .overtime => 3 | .hold => 4

/-- List codes (R185, R186). -/
def ListName.code : ListName → Nat
  | .prompt => 1 | .ring => 2 | .revoking => 3

/-- Supervision fault causes (R187). -/
def FaultCause.code : FaultCause → Byte
  | .value => 1 | .early => 2 | .missed => 3

/-- Notice kind codes 1..21 (R192). -/
def NoticeKind.code : NoticeKind → Nat
  | .configTimeout => 1 | .settingsDefaulted => 2 | .supervisionFault => 3 | .holdoverEntered => 4
  | .standdownEntered => 5 | .serviceResumed => 6 | .linkDegraded => 7 | .referenceLost => 8 | .referenceRestored => 9
  | .eventState => 10 | .extensionCapped => 11 | .cueChatter => 12 | .cueLockedOut => 13 | .cueIgnored => 14
  | .windowStretched => 15 | .windowRelaxed => 16 | .carouselOverload => 17 | .carouselStarved => 18 | .lapse => 19
  | .sweepDone => 20 | .storeHigh => 21

/-- A yes/no byte. -/
def yesNo (b : Bool) : Byte := if b then 1 else 0

/-- A presence byte or flags byte, bit 0 first (R186). -/
def bitsByte (bits : List Bool) : Byte := BitVec.ofNat 8 (bits.foldr (fun b n => b.toNat + 2 * n) 0)

/-- A bound in five bytes (R186). -/
def boundBytes : Bound → List Byte
  | .closedAt t => 0 :: secondBytes t
  | .openEnd => [1, 0, 0, 0, 0]
  | .noBound => [2, 0, 0, 0, 0]

/-! ### Notices (R187) -/

/-- The value field of a notice record. -/
def NoticeValue.bytes : NoticeValue → List Byte
  | .quantity n => natBytes 4 n
  | .fault cause count => [cause.code, 0, 0, BitVec.ofNat 8 count]
  | .holdover link => [if link then 2 else 1, 0, 0, 0]
  | .standdown cue => [if cue then 2 else 1, 0, 0, 0]
  | .resumed left => [left.code, 0, 0, 0]
  | .eventState state cause => [state.code, cause.code, 0, 0]
  | .requested action => [action.code, 0, 0, 0]
  | .sweep kind changed => kind.code :: natBytes 3 changed

/-- The subject type and index of a notice record. -/
def Subject.bytes : Subject → List Byte
  | .none => [0, 0]
  | .event i => [1, BitVec.ofNat 8 i]
  | .line i => [2, BitVec.ofNat 8 i]
  | .product i => [3, BitVec.ofNat 8 i]

/-- A notice record of 14 bytes. -/
def Notice.bytes (n : Notice) : List Byte :=
  [BitVec.ofNat 8 n.kind.code, BitVec.ofNat 8 n.level] ++ natBytes 4 n.seconds ++ natBytes 2 n.ms ++ n.subject.bytes ++
    n.value.bytes

/-! ### Carousel frames (R188, R189) -/

/-- Bytes 3..27 of a frame. -/
def FrameBody.bytes : FrameBody → List Byte
  | .filler => List.replicate 25 0
  | .grant product block map horizon revokeCopy clamped copiesLeft =>
    [BitVec.ofNat 8 product] ++ natBytes 3 block ++ bytes64 map ++ secondBytes horizon ++
      [bitsByte [revokeCopy, clamped], BitVec.ofNat 8 copiesLeft] ++ List.replicate 7 0
  | .announce event state products blackout bound =>
    [BitVec.ofNat 8 event, state.code] ++ productSetBytes products ++ bytes64 blackout ++
      (match bound with
        | .closedAt t => secondBytes t
        | .openEnd => [0xFF, 0xFF, 0xFF, 0xFF]
        | .noBound => [0, 0, 0, 0]) ++ List.replicate 5 0
  | .time seconds ms locked => natBytes 4 seconds ++ natBytes 2 ms ++ [yesNo locked] ++ List.replicate 18 0

/-- The kind byte of a frame. -/
def FrameBody.code : FrameBody → Byte
  | .filler => 0 | .grant .. => 1 | .announce .. => 2 | .time .. => 3

/-- The 32 bytes of a frame, its CRC-32 over bytes 0..27 last, high byte first. -/
def CarouselFrame.bytes (f : CarouselFrame) : List Byte :=
  let head := f.body.code :: (bytes16 f.seq ++ f.body.bytes)
  head ++ bytes32 (crc32 head)

/-- Bit k of a frame as it is shifted out: byte by byte, most significant bit first (R96). -/
def CarouselFrame.bit (f : CarouselFrame) (k : Nat) : Bool := (byteAt f.bytes (k / 8)).getLsbD (7 - k % 8)

/-! ### Reply records (R183, R185, R186, R190) -/

/-- The flags byte of a summary. -/
def SummaryFlag.code : SummaryFlag → Byte
  | .terminal => 0 | .endedEarly => 1 | .cut => 2 | .timedOut => 4

/-- The STATUS reply from offset 3. -/
def StatusReport.bytes (r : StatusReport) : List Byte :=
  [r.mode.code, r.policy.code, BitVec.ofNat 8 r.challenge, BitVec.ofNat 8 r.faults] ++ natBytes 4 r.seconds ++
    natBytes 2 r.ms ++ [bitsByte [r.isSet, r.locked], BitVec.ofNat 8 r.linkErrors] ++ natBytes 4 r.records ++
    natBytes 4 r.promptLength ++ natBytes 4 r.ringLength ++ natBytes 4 r.revokingLength ++ natBytes 2 r.window ++
    natBytes 2 r.capacity ++ natBytes 4 r.a16 ++ natBytes 4 r.lapseTotal ++
    [yesNo r.demand, BitVec.ofNat 8 r.queued, yesNo r.overflow,
      (match r.running with
        | some k => k.code
        | none => 0),
      bitsByte [r.pendingVoid, r.pendingPurge, r.pendingExtend]] ++ bytes16 r.seq ++ natBytes 2 r.lastCount

/-- The batch summary from offset 3. -/
def summaryBytes (flag : SummaryFlag) (b : Batch) : List Byte :=
  [flag.code, b.tag, if b.cancels then 2 else 1] ++ natBytes 2 b.count ++ natBytes 2 b.taken ++ natBytes 2 b.accepted ++
    natBytes 2 b.partly ++ natBytes 2 b.duplicates ++ natBytes 2 b.refused.badField ++ natBytes 2 b.refused.noProduct ++
    natBytes 2 b.refused.notOnSale ++ natBytes 2 b.refused.closed ++ natBytes 2 b.refused.blackedOut ++
    natBytes 2 b.refused.storeFull ++ natBytes 2 b.refused.notHeld ++ natBytes 2 b.surplus ++
    [BitVec.ofNat 8 b.listed.length] ++ b.listed.flatMap fun x => natBytes 2 x.1 ++ [x.2.code]

/-- The state code of a line context (R186). -/
def LineState.code : LineState → Byte
  | .unbound => 0 | .armed .. => 1 | .cooling _ => 2 | .lockedOut => 3

/-- A line context in a CUE BIND or CUE CLEAR reply. -/
def CueLine.bytes (l : CueLine) : List Byte :=
  [l.state.code, BitVec.ofNat 8 l.episodes] ++
    match l.lastCapture with
    | some c => (if c.intoActive then 1 else 2) :: (natBytes 4 c.seconds ++ natBytes 2 c.ms)
    | none => [0, 0xFF, 0xFF, 0xFF, 0xFF, 0xFF, 0xFF]

/-- The SHOW EVENT reply from offset 3. -/
def showEventBytes (i : Nat) (e : EventEntry) (bound : Bound) (mark : Option Mark) (products : BitVec 48)
    (lines : List (Nat × CueAction)) : List Byte :=
  [BitVec.ofNat 8 i, e.state.code,
    bitsByte [e.actualKickoff.isSome, e.finish.isSome, e.suspension.isSome, e.lastAnnounced.isSome, mark.isSome]] ++
    secondBytes e.saleOpen ++ secondBytes e.kickoff ++ secondBytes e.nominalEnd ++ natBytes 2 e.late ++
    natBytes 2 e.grace ++ natBytes 2 e.allowance ++ natBytes 2 e.extension ++ secondBytes? e.actualKickoff ++
    secondBytes? e.finish ++
    (match e.suspension with
      | some p => secondBytes p.seconds ++ natBytes 2 p.ms ++ [p.before.code]
      | none => List.replicate 7 0xFF) ++
    bytes64 e.blackout ++ [yesNo e.cueBound] ++ secondBytes? e.lastAnnounced ++ boundBytes bound ++
    (match mark with
      | some m => m.kind.code :: secondBytes m.time
      | none => List.replicate 5 0xFF) ++
    productSetBytes products ++ [BitVec.ofNat 8 lines.length] ++
    lines.flatMap fun x => [BitVec.ofNat 8 x.1, x.2.code]

/-- The SHOW RECORD reply from offset 3. -/
def showRecordBytes (r : GrantRecord) (position : Nat) : List Byte :=
  natBytes 4 r.key.block ++ [BitVec.ofNat 8 r.key.product] ++ bytes64 r.map ++
    (match r.place with
      | .prompt => [BitVec.ofNat 8 ListName.prompt.code] ++ natBytes 2 r.emissions ++ [bitsByte [false, r.stamp.isSome, false], 0xFF]
      | .ring _ => [BitVec.ofNat 8 ListName.ring.code] ++ natBytes 2 r.emissions ++ [bitsByte [false, r.stamp.isSome, true], 0xFF]
      | .revoking n =>
        [BitVec.ofNat 8 ListName.revoking.code] ++ natBytes 2 r.emissions ++
          [bitsByte [true, r.stamp.isSome, false], BitVec.ofNat 8 n]) ++
    (match r.stamp with
      | some p => secondBytes p.horizon ++ [yesNo p.clamped]
      | none => List.replicate 5 0xFF) ++
    (match r.place with
      | .ring due => secondBytes due
      | _ => List.replicate 4 0xFF) ++
    natBytes 4 position

/-- The SHOW DECODER reply from offset 3. -/
def showDecoderBytes (entries : List (Nat × ListName × Option Nat)) : List Byte :=
  [BitVec.ofNat 8 entries.length] ++
    productSetBytes (entries.foldl (fun v x => if x.2.2.isSome then v ||| BitVec.twoPow 48 x.1 else v) 0) ++
    entries.flatMap fun x => BitVec.ofNat 8 (x.2.1.code * 64 + x.1) :: secondBytes? x.2.2

/-- The fields of a reply after its status byte. -/
def ReplyFields.bytes : ReplyFields → List Byte
  | .none => []
  | .settingWritten id v => id :: natBytes 4 v
  | .settingRead id v w => id :: (natBytes 4 v ++ natBytes 4 w)
  | .seconds s => secondBytes s
  | .eventAction state bound => state.code :: boundBytes bound
  | .batchOpened cancels n => (if cancels then 2 else 1) :: natBytes 2 n
  | .cueContext l => l.bytes
  | .keepalive challenge parts => [BitVec.ofNat 8 challenge, BitVec.ofNat 8 parts]
  | .purchase partly region list =>
    [yesNo partly, (region.map (BitVec.ofNat 8)).getD 0xFF, (list.map fun l => BitVec.ofNat 8 l.code).getD 0xFF]
  | .cancelled copies empty => [BitVec.ofNat 8 copies, yesNo empty]
  | .status r => r.bytes
  | .event i e bound mark products lines => showEventBytes i e bound mark products lines
  | .product i d records events =>
    [BitVec.ofNat 8 i, match d.kind with | .single => 1 | .pass => 2, match d.life with | .alive => 1 | .dead => 2] ++
      boundBytes d.bound ++ natBytes 4 records ++ [BitVec.ofNat 8 events.length] ++
      events.flatMap fun x => BitVec.ofNat 8 x.1 :: (x.2.1.map EvState.code).getD 0 :: boundBytes x.2.2
  | .record r position => showRecordBytes r position
  | .decoder entries => showDecoderBytes entries
  | .notices taken remaining overflow =>
    [BitVec.ofNat 8 taken.length, BitVec.ofNat 8 remaining, yesNo overflow] ++ taken.flatMap Notice.bytes
  | .summary flag b => summaryBytes flag b

/-- The body of a reply record (R175). -/
def Reply.body (r : Reply) : List Byte := r.kind :: r.tag :: r.status.code :: r.fields.bytes

/-- A whole frame of the Order Link: START, LEN, body, CRC-16 high byte first (R171). -/
def linkFrameBytes (body : List Byte) : List Byte :=
  let counted := BitVec.ofNat 8 body.length :: body
  0xA5 :: (counted ++ bytes16 (crc16 counted))

/-! ### Characters of the Order Link (R170)

Levels are true for HIGH. That the start bit is LOW, and the stop bit and the idle level HIGH, is log 36. -/

/-- The character that carries a byte, level by level for its ten bit times: one start bit, 8 data bits least significant
first, no parity, one stop bit (R170). -/
def characterBits (b : Byte) : List Bool := false :: (List.range 8).map (fun k => b.getLsbD k) ++ [true]

/-- The byte that ten bit times of the line carry; none where they do not have the form of a character (R170). -/
def byteOfCharacter : List Bool → Option Byte
  | false :: rest => if rest.length = 9 ∧ rest.getLast? = some true then some (bitsByte (rest.take 8)) else none
  | _ => none

/-- The levels that a frame puts on the line, character after character (R170, R171). -/
def linkFrameLevels (body : List Byte) : List Bool := (linkFrameBytes body).flatMap characterBits

end Sys2Proof.Machine
end

