-- ==== Sys2Proof/Machine/Ops.lean ====
section
/-! DEFINITION. Operations that several commands share: posting a notice, raising a second mark, requesting a sweep job,
and a transition of an event with everything it brings about. -/

namespace Sys2Proof.Machine

/-! ### Notices (R178, R179, R181) -/

/-- The least urgent level held: the highest level number (R179). -/
def NoticeQueue.worst (q : NoticeQueue) : Nat := q.queue.foldl (fun m n => max m n.level) 0

/-- The queue without the newest notice of a level (R179). -/
def dropNewest (level : Nat) (ns : List Notice) : List Notice := (ns.reverse.eraseP fun n => n.level == level).reverse

/-- The queue takes a notice of level 0..6, the ATTN threshold given (R179, R181). -/
def NoticeQueue.take (q : NoticeQueue) (threshold : Nat) (n : Notice) : NoticeQueue :=
  if q.queue.length < 64 then
    { q with queue := q.queue ++ [n], attn := q.attn || n.level ≤ threshold }
  else if n.level < q.worst then
    { queue := dropNewest q.worst q.queue ++ [n], overflow := true, attn := q.attn || n.level ≤ threshold }
  else { q with overflow := true }

/-- Post a notice: its level and stamp are read now, and level 7 is not queued (R178). -/
def State.post (s : State) (kind : NoticeKind) (subject : Subject) (value : NoticeValue) : State :=
  let level := s.settings.current.levels.getD (kind.code - 1) 7
  if 7 ≤ level then s
  else
    s.withNotices
      (s.notices.take s.settings.current.attnThreshold ⟨kind, level, s.clock.seconds, s.clock.ms, subject, value⟩)

/-! ### Second marks (R125, R126) -/

/-- The clock raises a second mark carrying the new now_s to its three receivers. -/
def State.raiseSecondMark (s : State) : State :=
  s.withDue
    { s.due with
      passes := s.due.passes ++ [s.clock.seconds], window := s.due.window + 1, announce := s.due.announce + 1 }

/-- The seconds count rises by one with a second mark, unless it stands at its end (R125). -/
def State.advanceSecond (s : State) : State :=
  if s.clock.seconds < maxSecond then
    (s.withClock { s.clock with seconds := s.clock.seconds + 1 }).raiseSecondMark
  else s

/-! ### Sweep jobs (R113 to R115) -/

/-- The pending job of a kind, as its product set. -/
def Walker.pendingOf (w : Walker) : JobKind → Option (BitVec 48)
  | .void => w.pendingVoid
  | .purge => w.pendingPurge
  | .extend => w.pendingExtend

/-- The walker with another pending job of a kind. -/
def Walker.withPendingOf (w : Walker) (k : JobKind) (x : Option (BitVec 48)) : Walker :=
  match k with
  | .void => { w with pendingVoid := x }
  | .purge => { w with pendingPurge := x }
  | .extend => { w with pendingExtend := x }

/-- A job request starts at once on an idle walker; else it becomes, or is merged into, the pending job of its kind
(R114). -/
def Walker.request (w : Walker) (k : JobKind) (products : BitVec 48) : Walker :=
  match w.running with
  | none => { w with running := some ⟨k, products, none, 0⟩ }
  | some _ => w.withPendingOf k (some ((w.pendingOf k).getD 0 ||| products))

/-- Request a job over a set of products; an empty set is no request (R113). -/
def State.requestJob (s : State) (k : JobKind) (products : BitVec 48) : State :=
  if products = 0 then s else s.withWalker (s.walker.request k products)

/-- The requests of one report, at most one of each kind (R23, R113). The order of a VOID and a PURGE is free (log 7). -/
def State.requestJobs (s : State) (void purge extend : BitVec 48) : State :=
  if void ≠ 0 ∧ purge ≠ 0 then
    let s' : State := { s with choices := s.choices + 1 }
    if Config.voidBeforePurge s.choices then
      ((s'.requestJob .void void).requestJob .purge purge).requestJob .extend extend
    else ((s'.requestJob .purge purge).requestJob .void void).requestJob .extend extend
  else ((s.requestJob .void void).requestJob .purge purge).requestJob .extend extend

/-! ### Product Table (R22, R23) -/

/-- A recomputation finds the product dead: ALIVE, with every admitted event CLOSED or VOID (R23). -/
def ProductDef.dies (s : State) (d : ProductDef) : Bool := d.life == .alive && d.events.all s.isOver

/-- A recomputation of the product's bound and life (R22, R23). -/
def ProductDef.recompute (s : State) (d : ProductDef) : ProductDef :=
  { d with bound := productBound s d.events, life := if d.dies s then .dead else d.life }

/-- The products that admit event i and satisfy f. -/
def State.reportedSet (s : State) (i : Nat) (f : ProductDef → Bool) : BitVec 48 :=
  setOf 48 fun p =>
    match s.product? p with
    | some d => d.events.contains i && f d
    | none => false

/-- The Event Table reports event i: the products that admit it are recomputed, and outside CONFIGURING the sweep jobs
of R23 are requested. -/
def State.reportEvent (s : State) (i : Nat) : State :=
  let s' := s.withProducts <| s.products.map fun x =>
    match x.defn with
    | some d => if d.events.contains i then { x with defn := some (d.recompute s) } else x
    | none => x
  if s.sup.mode = .configuring then s'
  else
    s'.requestJobs
      (s.reportedSet i fun d => d.dies s && d.events.all s.isVoid)
      (s.reportedSet i fun d => d.dies s && !d.events.all s.isVoid)
      (s.reportedSet i fun d => d.life == .alive && !d.dies s && d.bound.grows (productBound s d.events))

/-! ### Mark List (R5, R133) -/

/-- The mark that an event's state needs, `tolerance` being the kickoff tolerance (R5). -/
def EventEntry.markFor (e : EventEntry) (i tolerance : Nat) : Option Mark :=
  match e.state with
  | .planned => some ⟨i, .saleOpen, e.saleOpen⟩
  | .onSale => some ⟨i, .kickoff, if e.cueBound then e.kickoff + tolerance else e.kickoff⟩
  | .live | .overtime => some ⟨i, .finish, e.nominalEnd + e.extension⟩
  | .ended => some ⟨i, .close, e.finish.getD 0 + e.grace⟩
  | .suspended | .closed | .void => none

/-- List order of marks: ascending time, equal times in ascending event index (R133). -/
def Mark.before (a b : Mark) : Bool := a.time < b.time || (a.time == b.time && a.event < b.event)

/-- A mark put in its place. -/
def insertMark (m : Mark) : List Mark → List Mark
  | [] => [m]
  | x :: xs => if m.before x then m :: x :: xs else x :: insertMark m xs

/-- The event's pending mark replaced, or removed (R133). -/
def replaceMark (marks : List Mark) (i : Nat) (m : Option Mark) : List Mark :=
  let rest := marks.filter fun x => x.event != i
  match m with
  | some m => insertMark m rest
  | none => rest

/-- Replace the pending mark of event i with the one its state needs (R5). -/
def State.placeMark (s : State) (i : Nat) : State :=
  match s.event? i with
  | some e => s.withMarks (replaceMark s.marks i (e.markFor i s.settings.current.kickoffTolerance))
  | none => s.withMarks (replaceMark s.marks i none)

/-! ### Announcements (R106) -/

/-- An announcement of event i is requested: it joins the tail unless it is listed, retired or EMPTY. -/
def State.requestAnnouncement (s : State) (i : Nat) : State :=
  if (s.event? i).isNone || s.arbiter.announcements.contains i || s.arbiter.retired.getLsbD i then s
  else s.withArbiter { s.arbiter with announcements := s.arbiter.announcements ++ [i] }

/-! ### Transitions (R3 to R13) -/

/-- X raised by n seconds under the cap of 7,200, with the seconds cut off if any (R8, R10). -/
def EventEntry.lengthen (e : EventEntry) (n : Nat) : EventEntry × Option Nat :=
  let x := e.extension + n
  ({ e with extension := min x 7200 }, if 7200 < x then some (x - 7200) else none)

/-- The suspension length in whole seconds, rounded up; a negative length counts as 0 (R10). -/
def Suspension.length (p : Suspension) (seconds ms : Nat) : Nat :=
  (seconds * 1000 + ms - (p.seconds * 1000 + p.ms) + 999) / 1000

/-- The entry after a requested transition taken at `seconds` and `ms`, with the seconds an extension was cut by; none
where the table of section 1.2 has no entry for it (R3, R6 to R13). -/
def EventEntry.act (e : EventEntry) (a : Action) (cause : Cause) (seconds ms : Nat) :
    Option (EventEntry × Option Nat) :=
  match a, e.state with
  | .openSale, .planned => some ({ e with state := .onSale }, none)
  | .kickoff, .onSale => some ({ e with state := .live, actualKickoff := some seconds }, none)
  | .overtime, .live | .overtime, .overtime =>
    let x := e.lengthen e.allowance
    some ({ x.1 with state := .overtime }, x.2)
  | .suspend, .live | .suspend, .overtime =>
    some ({ e with state := .suspended, suspension := some ⟨seconds, ms, e.state⟩ }, none)
  | .resume, .suspended =>
    match e.suspension with
    | some p =>
      let x := e.lengthen (p.length seconds ms)
      some ({ x.1 with state := p.before, suspension := none }, x.2)
    | none => none
  | .finish, .live | .finish, .overtime =>
    some ({ e with state := .ended, finish := some seconds, suspension := none }, none)
  | .finish, .suspended =>
    if cause = .command then some ({ e with state := .ended, finish := some seconds, suspension := none }, none)
    else none
  | .void, .planned | .void, .onSale | .void, .live | .void, .overtime | .void, .suspended =>
    some ({ e with state := .void, suspension := none }, none)
  | .close, .ended => some ({ e with state := .closed }, none)
  | _, _ => none

/-- A transition of event i to the entry e, one step with the five effects of R4. An EXTENSION_CAPPED belongs to the
change of the fields (log 14). -/
def State.transition (s : State) (i : Nat) (e : EventEntry) (cut : Option Nat) (cause : Cause) : State :=
  let s := s.withEvents (s.events.set i (some e))
  let s := match cut with
    | some n => s.post .extensionCapped (.event i) (.quantity n)
    | none => s
  let s := s.placeMark i
  let s := s.reportEvent i
  let s := s.requestAnnouncement i
  s.post .eventState (.event i) (.eventState e.state cause)

/-- A transition request at the Event Table: carried out, or none where the state has no entry for it (R3). -/
def State.requestAction (s : State) (i : Nat) (a : Action) (cause : Cause) (seconds ms : Nat) : Option State :=
  match s.event? i with
  | some e => (e.act a cause seconds ms).map fun x => s.transition i x.1 x.2 cause
  | none => none

/-! ### Firing passes (R134, R135) -/

/-- The transition that a mark requests (R134). -/
def MarkKind.action : MarkKind → Action
  | .saleOpen => .openSale
  | .kickoff => .kickoff
  | .finish => .finish
  | .close => .close

/-- One firing of a pass against `now`: the first mark, if its time is reached, is removed and handed to the Event Table
with request time `now` and 0 ms; none when no mark is due. -/
def State.fireFirst (s : State) (now : Nat) : Option State :=
  match s.marks with
  | [] => none
  | m :: rest =>
    if m.time ≤ now then
      let s' := s.withMarks rest
      some ((s'.requestAction m.event m.kind.action .timer now 0).getD s')
    else none

/-- The firings of a pass, at most n of them; a pass has at most 128 (R134). -/
def State.runPass : Nat → Nat → State → State
  | 0, _, s => s
  | n + 1, now, s =>
    match s.fireFirst now with
    | some s' => State.runPass n now s'
    | none => s

/-- A whole pass against `now`. -/
def State.firePass (s : State) (now : Nat) : State := State.runPass 129 now s

/-- A firing pass in progress is completed before another transition request is taken: R134 lets none come between two
firings of a pass (log 13). -/
def State.finishPass (s : State) : State :=
  if s.due.inPass then
    match s.due.passes with
    | now :: rest =>
      let s' := s.firePass now
      s'.withDue { s'.due with passes := rest, inPass := false }
    | [] => s.withDue { s.due with inPass := false }
  else s

/-- A cue requests an action of its event with its stamp as request time, outside CONFIGURING; a request that finds no
entry is dropped with CUE_IGNORED (R3, R141). -/
def State.cueRequest (s : State) (line : Nat) (a : Action) (i seconds ms : Nat) : State :=
  if s.sup.mode = .configuring then s
  else
    let s := s.finishPass
    match s.requestAction i a .cue seconds ms with
    | some s' => s'
    | none => s.post .cueIgnored (.line line) (.requested a)

/-! ### The kickoff cue bound flag (R1, R5) -/

/-- The Event Table sets the kickoff cue bound flag of event i from the bindings; where the flag of an ON_SALE event
changes, its mark is replaced. -/
def State.refreshKickoffFlag (s : State) (i : Nat) : State :=
  match s.event? i with
  | none => s
  | some e =>
    let flag := s.cues.kickoffBound i
    let s' := s.withEvents (s.events.set i (some { e with cueBound := flag }))
    if e.state = .onSale ∧ e.cueBound ≠ flag then s'.placeMark i else s'

end Sys2Proof.Machine
end

