-- ==== Sys2Proof/Machine/Store.lean ====
section
/-! DEFINITION. The Grant Store's operations: creation and freeing, bits set and cleared, emission, job actions
(R31 to R46), and the purchase and cancellation tests that reach it (R51 to R57). -/

namespace Sys2Proof.Machine

/-! ### Records and lists (R31, R32) -/

/-- A record put in its place in key order. -/
def insertRecord (r : GrantRecord) : List GrantRecord → List GrantRecord
  | [] => [r]
  | x :: xs => if r.key.before x.key then r :: x :: xs else x :: insertRecord r xs

/-- The record with the key of r replaced by r. -/
def GrantStore.update (g : GrantStore) (r : GrantRecord) : GrantStore :=
  { g with records := g.records.map fun x => if x.key = r.key then r else x }

/-- The key taken out of the list that `place` names. -/
def GrantStore.unlist (g : GrantStore) (k : Key) (place : Place) : GrantStore :=
  match place with
  | .prompt => { g with prompt := g.prompt.erase k }
  | .ring _ => { g with ring := g.ring.erase k }
  | .revoking _ => { g with revoking := g.revoking.erase k }

/-- The key appended to the tail of the list that `place` names (R32). -/
def GrantStore.enlist (g : GrantStore) (k : Key) (place : Place) : GrantStore :=
  match place with
  | .prompt => { g with prompt := g.prompt ++ [k] }
  | .ring _ => { g with ring := g.ring ++ [k] }
  | .revoking _ => { g with revoking := g.revoking ++ [k] }

/-- The record r, standing at `old` until now, moved to the tail of the list its new place names. -/
def GrantStore.move (g : GrantStore) (old : Place) (r : GrantRecord) : GrantStore :=
  ((g.unlist r.key old).update r).enlist r.key r.place

/-- A record created at the prompt tail (R33). -/
def GrantStore.create (g : GrantStore) (r : GrantRecord) : GrantStore :=
  { g with records := insertRecord r g.records, prompt := g.prompt ++ [r.key] }

/-- A record freed: out of its list and out of key order; the flag re-arms when the count falls to 51,999 (R34, R35). -/
def GrantStore.free (g : GrantStore) (r : GrantRecord) : GrantStore :=
  let g := g.unlist r.key r.place
  let g := { g with records := g.records.filter fun x => x.key != r.key }
  { g with highArmed := g.highArmed || g.records.length == 51999 }

/-- The due time of the ring's tail (R73). -/
def GrantStore.tailDue (g : GrantStore) : Option Nat :=
  match g.ring.getLast? with
  | some k => g.dueOf k
  | none => none

/-- The record count of a product changed by f (R18, R31). -/
def countRecord (products : List ProductEntry) (p : Nat) (f : Nat → Nat) : List ProductEntry :=
  products.modify p fun x => { x with records := f x.records }

/-- Creation: a record with the one slot, at the prompt tail; both counts rise and the store-high test is applied
(R33, R35). -/
def State.createRecord (s : State) (k : Key) (slot : Nat) : State :=
  let g := s.store.create ⟨k, BitVec.twoPow 64 slot, .prompt, none, 0⟩
  let high := g.records.length == 59000 && g.highArmed
  let s := (s.withStore (if high then { g with highArmed := false } else g)).withProducts
    (countRecord s.products k.product (· + 1))
  if high then s.post .storeHigh .none (.quantity g.records.length) else s

/-- Freeing (R34). -/
def State.freeRecord (s : State) (r : GrantRecord) : State :=
  (s.withStore (s.store.free r)).withProducts (countRecord s.products r.key.product (· - 1))

/-! ### Bits set and cleared (R36, R37) -/

/-- The store's answer to a bit-set request (R36). -/
inductive SetAnswer where
  | set | alreadySet | full
  deriving DecidableEq, Repr

/-- A bit-set request (R36). -/
def State.bitSet (s : State) (k : Key) (slot : Nat) : SetAnswer × State :=
  match s.store.find k with
  | some r =>
    if r.map.getLsbD slot then (.alreadySet, s)
    else
      let r' := { r with map := r.map ||| BitVec.twoPow 64 slot }
      match r.place with
      | .ring _ => (.set, s.withStore (s.store.move r.place { r' with place := .prompt }))
      | _ => (.set, s.withStore (s.store.update r'))
  | none => if s.store.records.length < 65536 then (.set, s.createRecord k slot) else (.full, s)

/-- A bit-clear request; the answer is the record's copies left and whether its map is now empty, or none for "not held"
(R37, R38, R57). -/
def State.bitClear (s : State) (k : Key) (slot : Nat) : Option (Nat × Bool) × State :=
  match s.store.find k with
  | some r =>
    if r.map.getLsbD slot then
      let copies := s.settings.current.revocationCopies
      let r' := { r with map := r.map &&& ~~~ BitVec.twoPow 64 slot, place := .revoking copies }
      let g :=
        match r.place with
        | .revoking _ => s.store.update r'
        | _ => s.store.move r.place r'
      (some (copies, r'.map == 0), s.withStore g)
    else (none, s)
  | none => (none, s)

/-! ### Emission (R39 to R41, R73, R84 to R88) -/

/-- The lapse counts raised by one, each saturating (R74, R88). -/
def Pacing.countLapse (p : Pacing) : Pacing :=
  { p with lapses := min 65535 (p.lapses + 1), lapseTotal := min 4294967295 (p.lapseTotal + 1) }

/-- The bound that stamps a record: its product's, as the Product Table gives it (R22, R84). -/
def State.boundOfProduct (s : State) (p : Nat) : Bound :=
  match s.product? p with
  | some d => d.bound
  | none => .noBound

/-- The record r, out of its list, joins the ring tail with a due time from the Pacing Unit (R40, R73). -/
def State.joinRing (s : State) (r : GrantRecord) : GrantStore :=
  let g := s.store.unlist r.key r.place
  let due := joiningDue s.clock.seconds s.pacing.window s.settings.current.guard g.tailDue
  (g.update { r with place := .ring due }).enlist r.key (.ring due)

/-- The placement after an emission, r carrying its new stamp and its old place (R40, R41). -/
def State.placeEmitted (s : State) (r : GrantRecord) : State :=
  match r.place with
  | .revoking (n + 2) => s.withStore (s.store.move r.place { r with place := .revoking (n + 1) })
  | .revoking _ => if r.map = 0 then s.freeRecord r else s.withStore (s.joinRing r)
  | _ => s.withStore (s.joinRing r)

/-- REVOKE_COPY is set for a record from the revocation queue (R39, R103). -/
def Place.revoke : Place → Bool
  | .revoking _ => true
  | _ => false

/-- Copies left after this copy; 0 outside the revocation queue (R39). -/
def Place.copies : Place → Nat
  | .revoking n => n - 1
  | _ => 0

/-- The emission of a record: lapse test, stamp, frame content, counts, placement (R39 to R41, R88). -/
def State.emit (s : State) (r : GrantRecord) : FrameBody × State :=
  let now := s.clock.seconds
  let stamp := stampOf s.stretches now s.pacing.window (s.boundOfProduct r.key.product)
  let body := FrameBody.grant r.key.product r.key.block r.map stamp.horizon r.place.revoke stamp.clamped r.place.copies
  let s := if lapses r.stamp now then s.withPacing s.pacing.countLapse else s
  (body, s.placeEmitted { r with stamp := some stamp, emissions := min 65535 (r.emissions + 1) })

/-! ### Job actions (R44 to R46) -/

/-- The EXTEND action; the answer is whether the record was changed. -/
def State.extendRecord (s : State) (r : GrantRecord) : Bool × State :=
  match r.place, r.stamp with
  | .ring _, some ⟨_, true⟩ => (true, s.withStore (s.store.move r.place { r with place := .prompt }))
  | _, _ => (false, s)

/-- The PURGE action. -/
def State.purgeRecord (s : State) (r : GrantRecord) : Bool × State := (true, s.freeRecord r)

/-- The VOID action. -/
def State.voidRecord (s : State) (r : GrantRecord) : Bool × State :=
  let r' := { r with map := 0, place := .revoking s.settings.current.revocationCopies }
  match r.place with
  | .revoking _ => (true, s.withStore (s.store.update r'))
  | _ => (true, s.withStore (s.store.move r.place r'))

/-! ### The purchase and cancellation tests (R51 to R57) -/

/-- The outcome of a purchase test: its status and what its reply carries (R55). -/
structure PurchaseOutcome where
  status : Status
  partly : Bool
  region : Option Nat
  list : Option ListName
  deriving DecidableEq, Repr

/-- An outcome with nothing in the reply's fields. -/
def PurchaseOutcome.plain (status : Status) : PurchaseOutcome := ⟨status, false, none, none⟩

/-- The service list of the record with a key, if there is one. -/
def GrantStore.listOf (g : GrantStore) (k : Key) : Option ListName := (g.find k).map fun r => r.place.listName

/-- The last steps of the purchase test, the region and PARTLY_BLACKED flag known: the bit-set request (R55). -/
def State.purchaseBit (s : State) (k : Key) (slot region : Nat) (partly : Bool) : PurchaseOutcome × State :=
  match s.bitSet k slot with
  | (.alreadySet, s') => (⟨.duplicate, partly, some region, s'.store.listOf k⟩, s')
  | (.full, s') => (⟨.storeFull, false, some region, none⟩, s')
  | (.set, s') => (⟨.done, partly, some region, s'.store.listOf k⟩, s')

/-- The purchase test from its field checks on (R51 to R55). -/
def State.purchaseTest (s : State) (addr : BitVec 32) (product : BitVec 8) : PurchaseOutcome × State :=
  if !addressOk addr product then (.plain .badField, s)
  else
    match s.product? product.toNat with
    | none => (.plain .noProduct, s)
    | some d =>
      let sellable := s.sellableOf d.events
      if sellable.isEmpty then
        (.plain (if s.sellingOver d.events then .closed else .notOnSale), s)
      else
        let region := s.regionOf (blockOf addr)
        let black := sellable.countP fun e => e.blackout.getLsbD region
        if black = sellable.length then (⟨.blackedOut, false, some region, none⟩, s)
        else s.purchaseBit ⟨blockOf addr, product.toNat⟩ (slotOf addr) region (0 < black)

/-- The cancellation test from its field checks on: the status, and for DONE the copies left and whether the map is now
empty (R57). -/
def State.cancelTest (s : State) (addr : BitVec 32) (product : BitVec 8) : (Status × Option (Nat × Bool)) × State :=
  if !addressOk addr product then ((.badField, none), s)
  else if (s.product? product.toNat).isNone then ((.noProduct, none), s)
  else
    match s.bitClear ⟨blockOf addr, product.toNat⟩ (slotOf addr) with
    | (some x, s') => ((.done, some x), s')
    | (none, s') => ((.notHeld, none), s')

end Sys2Proof.Machine
end

