-- ==== Sys2Proof/Machine/LinkOps.lean ====
section
/-! DEFINITION. Shared operations of the Order Link and the Supervision Unit: replies and unsolicited output, closing a
batch, faults, holdover and standdown, periods and challenges (R59 to R71, R148 to R162, R173 to R175). -/

namespace Sys2Proof.Machine

/-! ### The transmitter (R175) -/

/-- A waiting summary starts going out when no command is in service and the transmitter is idle (R175). -/
def Link.pump (l : Link) : Link :=
  match l.unsolicited with
  | some r => if l.service.isNone && l.tx.isEmpty then { l with tx := [⟨r, false⟩], unsolicited := none } else l
  | none => l

/-- A batch summary: a reply record of the BATCH END reply kind (R70, R71). -/
def summaryReply (flag : SummaryFlag) (tag : BitVec 8) (b : Batch) : Reply := ⟨0x95, tag, .done, .summary flag b⟩

/-- The frame in service is a BATCH DATA frame with items left. -/
def Service.hasItems (v : Service) : Bool :=
  match v.work with
  | .items _ => true
  | _ => false

/-- The open batch closes with an unsolicited summary; a BATCH DATA frame in service leaves service, its items not yet
taken discarded (R67, R68; log 24). -/
def Link.closeUnsolicited (l : Link) (flag : SummaryFlag) : Link :=
  match l.batch with
  | some b =>
    let service := l.service.filter fun v => !v.hasItems
    Link.pump { l with batch := none, service := service, unsolicited := some (summaryReply flag b.tag b) }
  | none => l

/-! ### Supervision periods, challenges, faults (R150, R153, R154) -/

/-- A new challenge: one of 1..254 other than the old one, otherwise free (R150, log 8). -/
def nextChallenge (old draw : Nat) : Nat := 1 + (old + Config.challengeSource draw % 253) % 254

/-- A new challenge is issued: the parts count takes effect and the collection is empty (R150, R168). -/
def State.issueChallenge (s : State) : State :=
  let s : State := { s with draws := s.draws + 1 }
  let s := s.withSup
    { s.sup with challenge := nextChallenge s.sup.challenge s.draws, collection := 0 }
  s.withSettings
    { s.settings with inForce := { s.settings.inForce with partsCount := s.settings.current.partsCount } }

/-- A supervision period starts: the deferred settings of R153 take effect, length and window being fixed for the period
(R153, R168). -/
def State.startPeriod (s : State) : State :=
  let c := s.settings.current
  let f := { s.settings.inForce with
    supervisionPeriod := c.supervisionPeriod, windowMode := c.windowMode, maintenancePeriod := c.maintenancePeriod }
  let serving := s.sup.mode = .serving
  let s := s.withSettings { s.settings with inForce := f }
  s.withSup
    { s.sup with
      period := some ⟨if serving then f.supervisionPeriod else f.maintenancePeriod * 1000, 0⟩,
      windowOn := decide serving && f.windowMode == 1 }

/-- Entry to STANDDOWN (R161). -/
def State.enterStanddown (s : State) (byCue : Bool) : State :=
  let s := s.withSup { s.sup with mode := .standdown, quiet := none }
  let s := s.withPort { s.port with starvation := none, starved := false }
  s.post .standdownEntered .none (.standdown byCue)

/-- Every product 0..47 (R122). -/
def allProducts : BitVec 48 := BitVec.allOnes 48

/-- The entry action of the policy (R157 item 5). -/
def State.policyEntry (s : State) : State :=
  match s.sup.policy with
  | .carry => s
  | .stretch => s.requestJob .extend allProducts
  | .quietStanddown => s.withSup { s.sup with quiet := some (s.settings.current.quietTime * 1000) }
  | .cueStanddown => if s.cues.asserted then s.enterStanddown true else s

/-- Entry to HOLDOVER from SERVING or MAINTENANCE (R157). -/
def State.enterHoldover (s : State) (byLink : Bool) : State :=
  let s := s.withSup
    { s.sup with mode := .holdover, period := none, windowOn := false, collection := 0, faults := 0 }
  let s := s.withLink (s.link.closeUnsolicited .cut)
  let s := s.post .holdoverEntered .none (.holdover byLink)
  s.policyEntry

/-- A fault is counted: the collection is discarded, a new period starts, SUPERVISION_FAULT is posted, and at the fault
limit the mode becomes HOLDOVER (R151, R153, R154). -/
def State.countFault (s : State) (cause : FaultCause) : State :=
  let s := s.withSup { s.sup with collection := 0, faults := s.sup.faults + 1 }
  let s := s.startPeriod
  let s := s.post .supervisionFault .none (.fault cause s.sup.faults)
  if s.settings.current.faultLimit ≤ s.sup.faults then s.enterHoldover false else s

/-! ### Frame errors (R172, R173) -/

/-- A frame held or in error restarts the quiet timer in HOLDOVER under QUIET_STANDDOWN (R159). -/
def State.restartQuiet (s : State) : State :=
  if s.sup.mode = .holdover ∧ s.sup.policy = .quietStanddown then
    s.withSup { s.sup with quiet := some (s.settings.current.quietTime * 1000) }
  else s

/-- A frame error: the receiver enters HUNT with `armed`, and the link error count rises, or at the threshold becomes 0
with LINK_DEGRADED and, in SERVING and MAINTENANCE, HOLDOVER (R172, R173). -/
def State.frameError (s : State) (armed : Bool) : State :=
  let s := s.restartQuiet
  let s := s.withLink { s.link with framing := .hunt armed }
  let threshold := s.settings.current.linkThreshold
  if s.link.errors < threshold then s.withLink { s.link with errors := s.link.errors + 1 }
  else
    let s := s.withLink { s.link with errors := 0 }
    let s := s.post .linkDegraded .none (.quantity threshold)
    if s.sup.mode.supervised then s.enterHoldover true else s

/-! ### Batches (R59 to R63) -/

/-- A fresh context (R60). -/
def Batch.opened (cancels : Bool) (count : Nat) (tag : BitVec 8) : Batch :=
  ⟨cancels, count, tag, 0, 0, 0, 0, ⟨0, 0, 0, 0, 0, 0, 0⟩, 0, [], 2000⟩

/-- A refused count raised (R62). -/
def RefusedCounts.bump (c : RefusedCounts) : Status → RefusedCounts
  | .badField => { c with badField := c.badField + 1 }
  | .noProduct => { c with noProduct := c.noProduct + 1 }
  | .notOnSale => { c with notOnSale := c.notOnSale + 1 }
  | .closed => { c with closed := c.closed + 1 }
  | .blackedOut => { c with blackedOut := c.blackedOut + 1 }
  | .storeFull => { c with storeFull := c.storeFull + 1 }
  | .notHeld => { c with notHeld := c.notHeld + 1 }
  | _ => c

/-- The sum of the refused counts (R62). -/
def RefusedCounts.total (c : RefusedCounts) : Nat :=
  c.badField + c.noProduct + c.notOnSale + c.closed + c.blackedOut + c.storeFull + c.notHeld

/-- The context after an item with this outcome (R62). -/
def Batch.tally (b : Batch) (status : Status) (partly : Bool) : Batch :=
  let b := { b with taken := b.taken + 1 }
  match status with
  | .done => { b with accepted := b.accepted + 1, partly := if partly then b.partly + 1 else b.partly }
  | .duplicate => { b with duplicates := b.duplicates + 1 }
  | st =>
    { b with
      refused := b.refused.bump st,
      listed := if b.listed.length < 8 then b.listed ++ [(b.taken, st)] else b.listed }

/-- The test of the batch's operation on one item, as the outcome its context counts (R62). -/
def State.itemTest (s : State) (cancels : Bool) (x : BatchEntry) : (Status × Bool) × State :=
  if cancels then
    let r := s.cancelTest x.addr x.product
    ((r.1.1, false), r.2)
  else
    let r := s.purchaseTest x.addr x.product
    ((r.1.status, r.1.partly), r.2)

/-- One item of the BATCH DATA frame in service: tested and counted; at the terminal count the rest of the frame is
surplus, the summary goes out as the frame's reply and the context closes; else after the last item the frame leaves
service (R61 to R63). A frame in service without an open batch leaves service. -/
def State.takeItem (s : State) : State :=
  match s.link.service with
  | some ⟨kind, tag, .items (x :: rest)⟩ =>
    match s.link.batch with
    | some b =>
      let r := s.itemTest b.cancels x
      let s := r.2
      let b := b.tally r.1.1 r.1.2
      if b.count ≤ b.taken then
        let b := { b with surplus := min 65535 (b.surplus + rest.length) }
        s.withLink
          { s.link with
            batch := none, service := some ⟨kind, tag, .replying⟩,
            tx := s.link.tx ++ [⟨summaryReply .terminal b.tag b, true⟩] }
      else
        s.withLink
          (Link.pump
            { s.link with
              batch := some b, service := if rest.isEmpty then none else some ⟨kind, tag, .items rest⟩ })
    | none => s.withLink (Link.pump { s.link with service := none })
  | some ⟨_, _, .items []⟩ => s.withLink (Link.pump { s.link with service := none })
  | _ => s

/-! ### The end of a service (R167, R174, R175, R181) -/

/-- The write of the stored copy completes and its DONE reply is handed to the transmitter (R167). -/
def State.completeWrite (s : State) : State :=
  match s.settings.writing with
  | some (snapshot, _) =>
    let s := s.withSettings { s.settings with stored := some snapshot, writing := none }
    match s.link.service with
    | some ⟨kind, tag, .writing⟩ =>
      s.withLink
        { s.link with
          service := some ⟨kind, tag, .replying⟩,
          tx := s.link.tx ++ [⟨⟨kind + 0x80, tag, .done, .none⟩, true⟩] }
    | _ => s
  | none => s

/-- The ATTN check at the end of a NOTICES reply (R181). -/
def State.attnCheck (s : State) : State :=
  if s.notices.urgent s.settings.current.attnThreshold then s
  else s.withNotices { s.notices with attn := false }

/-- The last byte of the frame being sent goes out: if it is the reply of the command in service, that command leaves
service; after a NOTICES reply the ATTN check is made; a waiting summary then starts (R174, R175, R181), also behind the
reply of a RESET, which acts only after that summary (log 35). -/
def State.sendDone (s : State) : State :=
  match s.link.tx with
  | [] => s
  | o :: rest =>
    let s := s.withLink
      (Link.pump { s.link with tx := rest, service := if o.ends then none else s.link.service })
    if o.reply.kind = 0x9B then s.attnCheck else s

end Sys2Proof.Machine
end

