-- ==== Sys2Proof/Machine/ResetOps.lean ====
section
/-! DEFINITION. The effects that the reset kinds share (R163, R164 and the reset columns of every owner's table), and what
a loss of supply or RESET_N held low ends (R96, R121, R167). -/

namespace Sys2Proof.Machine

/-- The policy that the straps select (R158). -/
def policyOf (policy1 policy0 : Bool) : Policy :=
  match policy1, policy0 with
  | false, false => .carry
  | false, true => .stretch
  | true, false => .quietStanddown
  | true, true => .cueStanddown

/-- The Cue Monitor after every reset kind: lines UNBOUND, the asserted condition clear, and a reserved line 0 read
afresh, so that its settling timer starts if its pin is HIGH (R137, R147). -/
def CueMonitor.cleared (c : CueMonitor) (policy : Policy) : CueMonitor :=
  { lines := List.replicate 8 .unbound, pins := c.pins, asserted := false,
    settling := if policy = .cueStanddown ∧ c.pins.getLsbD 0 then some 200 else none }

/-- Entry to CONFIGURING, the same at every reset kind: the configuring window and the parts count take effect, a new
challenge is issued and the configuring-window timer starts (R148, R149, R150, R168). -/
def State.enterConfiguring (s : State) : State :=
  let s := s.issueChallenge
  let w := s.settings.current.configWindow
  let s := s.withSettings { s.settings with inForce := { s.settings.inForce with configWindow := w } }
  s.withSup
    { s.sup with
      mode := .configuring, collection := 0, faults := 0, period := none, windowOn := false,
      configTimer := some (w * 1000), quiet := none }

/-- Every reset kind empties the tables, the store, the Mark List, the walker and the lines, and forgets second marks not
yet taken (R1, R18, R24, R50, R112, R121, R133, R137; log 12). -/
def State.emptyTables (s : State) : State :=
  { s with
    marks := [], due := .idle, events := emptyEvents, products := emptyProducts, regions := emptyRegions,
    store := .empty, walker := .idle, cues := s.cues.cleared s.sup.policy }

/-- RESET TABLES and configuring-window expiry, but for the command in service: tables emptied; A16, the sequence number,
the clock, the settings, the notices, the holding and a frame being shifted kept; a hold ended; the batch closed
(R68, R74, R94, R98, R124, R163, R169). -/
def State.resetTables (s : State) : State :=
  let s := s.emptyTables
  let s := s.withPacing
    { s.pacing with
      window := s.settings.current.windowConfigured, stretched := false, overload := false, lapses := 0, lapseTotal := 0 }
  let s := s.withArbiter { s.arbiter with announcements := [], timePending := false, retired := 0 }
  let s := s.withPort { s.port with starvation := none, starved := false }
  let s := s.withClock { s.clock with hold := 0 }
  let s := s.withLink { s.link with unsolicited := none, batch := none }
  s.enterConfiguring

/-- RESET TABLES acts once its reply has gone out: no command is in service and the transmitter is idle (R163, R169). -/
def State.resetTablesActs (s : State) : State :=
  let s := s.resetTables
  s.withLink { s.link with service := none, tx := [], resetDue := none }

/-- Steps 2 to 5 of R164: the settings are loaded from the stored copy, or the defaults if its check fails; every other
block takes its power-on state, `port` being the Carousel Port's; and SETTINGS_DEFAULTED is posted if the check failed.
The receiver counts its idle time from this moment, also at RESET FULL (log 33). -/
def State.start (s : State) (port : Port) : State :=
  let c := s.settings.stored.getD .defaults
  let s := s.withSettings ⟨c, .ofSettings c, s.settings.stored, none⟩
  let s := s.emptyTables
  let s : State := { s with
    run := .running, clock := .start, pacing := .start c.windowConfigured, arbiter := .start, port := port,
    link := .start s.osc, notices := .empty }
  let s := s.enterConfiguring
  if s.settings.stored.isNone then s.post .settingsDefaulted .none (.quantity 0) else s

/-- RESET FULL acts: as a start that keeps the policy; a frame being shifted completes (R94, R96, R164). -/
def State.resetFullActs (s : State) : State :=
  s.start { Port.start with transfer := s.port.transfer, sdo := s.port.sdo, lastBit := s.port.lastBit }

/-- What a loss of supply or RESET_N held low ends: the frame being shifted, the receiver's and the transmitter's
activity, the walk, the timers, and a settings write, which leaves the stored copy failing its check
(R96, R121, R167, R170). ATTN and the notices stay as they were until the release, and CP_SDO is LOW without supply too
(log 39). -/
def State.endActivity (s : State) : State :=
  let st := s.settings
  let s := s.withSettings
    { st with stored := if st.writing.isSome then none else st.stored, writing := none }
  let s := s.withPort { s.port with transfer := .idle, sdo := false, starvation := none }
  let s := s.withLink
    { s.link with framing := .hunt false, service := none, tx := [], unsolicited := none, batch := none, resetDue := none }
  let s := s.withSup { s.sup with period := none, configTimer := none, quiet := none }
  (s.withWalker .idle).withDue .idle

/-- The release of power-on reset or of RESET_N: the straps are sampled and the part starts (R158, R164). The local
oscillator time counts from here. -/
def State.release (s : State) (policy1 policy0 : Bool) : State :=
  let s := s.endActivity
  let s : State := { s with osc := 0 }
  let s := s.withSup { s.sup with policy := policyOf policy1 policy0 }
  s.start .start

/-- The reset of a form acts (R163). -/
def State.resetActs (s : State) : ResetForm → State
  | .tables => s.resetTablesActs
  | .full => s.resetFullActs

end Sys2Proof.Machine
end

