-- ==== Sys2Proof/Machine/Serve.lean ====
section
/-! DEFINITION. How the Order Link takes a command and answers it (R65, R174, R175). -/

namespace Sys2Proof.Machine

/-- A step of the link that must come before another command can be taken: the write completes, the items of the frame in
service are taken, the frames of the transmitter go out, a RESET acts, a waiting summary starts. None when the link is
free (R174). A RESET acts after a summary that waited behind its reply (log 35). -/
def State.linkStep (s : State) : Option State :=
  match s.link.service with
  | some ⟨_, _, .items _⟩ => some s.takeItem
  | some ⟨kind, tag, .writing⟩ =>
    some (if s.settings.writing.isSome then s.completeWrite
      else s.withLink { s.link with service := some ⟨kind, tag, .replying⟩ })
  | some ⟨_, _, .replying⟩ =>
    some (if s.link.tx.isEmpty then s.withLink { s.link with service := none } else s.sendDone)
  | none =>
    if !s.link.tx.isEmpty then some s.sendDone
    else
      match s.link.resetDue with
      | some f => some (s.resetActs f)
      | none => if s.link.unsolicited.isSome then some (s.withLink s.link.pump) else none

/-- At most n of those steps. -/
def State.settleFor : Nat → State → State
  | 0, s => s
  | n + 1, s =>
    match s.linkStep with
    | some s' => State.settleFor n s'
    | none => s

/-- What is in service ends before another command is taken (R174): a BATCH DATA frame has at most 20 items (R61), so 64
steps are enough (log 5). -/
def State.settle (s : State) : State := State.settleFor 64 s

/-- The oldest held frame leaves the receive holding when it spells the command taken (R174); a command given without
its frame leaves the holding as it is (log 6). -/
def State.takeFrame (s : State) (c : Instr) : State :=
  match s.link.holding with
  | f :: rest => if decodeFrame f = some c then s.withLink { s.link with holding := rest } else s
  | [] => s

/-- The summary of the batch that a command of this kind cuts, to be sent before its own reply (R65). -/
def Link.cutSummary (l : Link) (kind : BitVec 8) : List Outgoing :=
  match l.batch with
  | some b => if cutsBatch kind then [⟨summaryReply .cut b.tag b, false⟩] else []
  | none => []

/-- The batch context after the cut (R65). -/
def Link.cutBatch (l : Link) (kind : BitVec 8) : Option Batch := if cutsBatch kind then none else l.batch

/-- The answer of a command's own rule: a reply's status and fields, or none where no reply is due now. -/
abbrev Answer := Option (Status × ReplyFields) × State

/-- A refusal, or a success without fields. -/
def plainReply (status : Status) (s : State) : Answer := (some (status, .none), s)

/-- The reply is handed to the transmitter (R174, R175). -/
def State.reply (s : State) (kind tag : BitVec 8) (status : Status) (fields : ReplyFields) : State :=
  s.withLink { s.link with tx := s.link.tx ++ [⟨⟨kind, tag, status, fields⟩, true⟩] }

/-- The command is taken: it is in service from now on, and a batch that it cuts is closed with its summary first
(R65, R174). -/
def State.begin (s : State) (c : Instr) : State :=
  let s := s.settle.takeFrame c
  let kind := kindOf c
  s.withLink
    { s.link with
      tx := s.link.tx ++ s.link.cutSummary kind, batch := s.link.cutBatch kind,
      service := some ⟨kind, (hdrOf c).tag, .replying⟩ }

/-- Steps 3 to 5 of R174 on a command that has been taken: the mode, the body length, then the command's own rule. -/
def State.serveTaken (s : State) (c : Instr) (rule : State → Answer) : State :=
  let kind := kindOf c + 0x80
  let tag := (hdrOf c).tag
  if !servedIn s.sup.mode c then s.reply kind tag .wrongMode .none
  else if !lengthOk c then s.reply kind tag .badLength .none
  else
    match rule s with
    | (some (status, fields), s') => s'.reply kind tag status fields
    | (none, s') => s'

/-- A step of a part that runs; without supply or with RESET_N low nothing but the pins of reset acts (R96, R167). -/
def State.live (s : State) (f : State → State) : Host.Outcome State Fault Refusal :=
  .next (if s.run = .running then f s else s)

/-- The Order Link takes a command and serves it (R174). -/
def serve (c : Instr) (rule : State → Answer) (s : State) : Host.Outcome State Fault Refusal :=
  s.live fun s => (s.begin c).serveTaken c rule

end Sys2Proof.Machine
end

