-- ==== Sys2Proof/Machine/Settings.lean ====
section
/-! DEFINITION. SET, GET, SAVE SETTINGS and the completion of its write (R81 to R83, R165 to R168). -/

namespace Sys2Proof.Machine

/-- The stretched condition is tested after a change of W_eff or W_cfg; a change posts WINDOW_STRETCHED with W_eff or
WINDOW_RELAXED with W_cfg (R81). -/
def State.testStretched (s : State) : State :=
  let wcfg := s.settings.current.windowConfigured
  if wcfg < s.pacing.window then
    if s.pacing.stretched then s
    else (s.withPacing { s.pacing with stretched := true }).post .windowStretched .none (.quantity s.pacing.window)
  else if s.pacing.stretched then
    (s.withPacing { s.pacing with stretched := false }).post .windowRelaxed .none (.quantity wcfg)
  else s

/-- The current settings replaced. -/
def State.withCurrent (s : State) (c : Settings) : State := s.withSettings { s.settings with current := c }

/-- A SET of W_cfg: the guard is clamped to floor(W_cfg / 4), W_eff rises to W_cfg if it was below, and the stretched
condition is tested (R82). -/
def State.setWindow (s : State) (w : Nat) : State :=
  let c := s.settings.current
  let s := s.withCurrent { c with windowConfigured := w, guard := min c.guard (w / 4) }
  let s := s.withPacing { s.pacing with window := max s.pacing.window w }
  s.testStretched

/-- A setting takes an admitted value, with the effects of the settings that do more than take it (R77, R154, R165, R173,
R181). -/
def State.takeSetting (s : State) (id v : Nat) : State :=
  match id with
  | 0x09 => s.setWindow v
  | 0x07 => (s.withCurrent (writeSetting s.settings.current id v)).withSup { s.sup with faults := 0 }
  | 0x0B =>
    (s.withCurrent (writeSetting s.settings.current id v)).withPacing
      { s.pacing with capacity := capacityOf s.pacing.a16 v }
  | 0x10 =>
    (s.withCurrent (writeSetting s.settings.current id v)).withLink { s.link with errors := min s.link.errors v }
  | 0x11 =>
    (s.withCurrent (writeSetting s.settings.current id v)).withNotices
      { s.notices with attn := s.notices.attn || s.notices.urgent v }
  | _ => s.withCurrent (writeSetting s.settings.current id v)

/-- A SET of W_cfg to w clamps the guard (R82). -/
def Settings.guardClamped (c : Settings) (id w : Nat) : Bool := id == 0x09 && w / 4 < c.guard

/-- The rule of SET (R165). -/
def setRule (id : BitVec 8) (value : BitVec 32) (s : State) : Answer :=
  let v := value.toNat
  match settingAdmits s.settings.current id.toNat with
  | none => plainReply .badField s
  | some (.codes cs) =>
    if cs.contains v then (some (.done, .settingWritten id v), s.takeSetting id.toNat v) else plainReply .badField s
  | some (.range lo hi) =>
    let w := clampTo lo hi v
    let clamped := w != v || s.settings.current.guardClamped id.toNat w
    (some (if clamped then .doneClamped else .done, .settingWritten id w), s.takeSetting id.toNat w)

/-- SET (R165). -/
def execSet (h : Hdr) (id : BitVec 8) (value : BitVec 32) (s : State) : Host.Outcome State Fault Refusal :=
  serve (.set h id value) (setRule id value) s

/-- The rule of GET (R166). -/
def getRule (id : BitVec 8) (s : State) : Answer :=
  match settingValue s.settings.current id.toNat, valueInForce s.settings id.toNat with
  | some v, some w => (some (.done, .settingRead id v w), s)
  | _, _ => plainReply .badField s

/-- GET (R166). -/
def execGet (h : Hdr) (id : BitVec 8) (s : State) : Host.Outcome State Fault Refusal := serve (.get h id) (getRule id) s

/-- The write time in ms of a SAVE SETTINGS taken at local time `osc`: up to 40, otherwise free (R167, log 16). -/
def saveTime (osc : Nat) : Nat := min 40 (Config.writeTime osc)

/-- The rule of SAVE SETTINGS: the write of a snapshot starts, and the reply waits for its completion (R167). -/
def saveRule (s : State) : Answer :=
  let s := s.withSettings { s.settings with writing := some (s.settings.current, saveTime s.osc) }
  (none, s.withLink { s.link with service := s.link.service.map fun v => { v with work := .writing } })

/-- SAVE SETTINGS (R167). -/
def execSaveSettings (h : Hdr) (s : State) : Host.Outcome State Fault Refusal := serve (.saveSettings h) saveRule s

/-- SAVE SETTINGS WRITE COMPLETE (R167). -/
def execSaveSettingsWriteComplete (s : State) : Host.Outcome State Fault Refusal := s.live State.completeWrite

end Sys2Proof.Machine
end

