-- ==== Sys2Proof/Machine/Carousel.lean ====
section
/-! DEFINITION. Second marks at their receivers, the rate interval, slot grants, the frame clock, starvation and sweep
visits (R75 to R81, R89, R94 to R110, R115 to R119, R134). -/

namespace Sys2Proof.Machine

/-! ### Second marks (R78 to R81, R89, R105, R107, R134) -/

/-- The pass for the oldest second mark ends (R134). -/
def State.closePass (s : State) (rest : List Nat) : State :=
  s.withDue { s.due with passes := rest, inPass := false }

/-- The first mark of the list is due against `now` (R134). -/
def State.markDue (s : State) (now : Nat) : Bool :=
  match s.marks with
  | m :: _ => m.time ≤ now
  | [] => false

/-- One step of the firing pass of the oldest second mark: a firing, after which the pass ends if no further mark is due;
in CONFIGURING there is no pass (R134). -/
def State.markFiring (s : State) : State :=
  match s.due.passes with
  | [] => s
  | now :: rest =>
    if s.sup.mode = .configuring then s.closePass rest
    else
      match s.fireFirst now with
      | some s' => if s'.markDue now then s'.withDue { s'.due with inPass := true } else s'.closePass rest
      | none => s.closePass rest

/-- MARK FIRING (R134). -/
def execMarkFiring (s : State) : Host.Outcome State Fault Refusal := s.live State.markFiring

/-- The overload condition after a target whose case is one of overload or not (R79). -/
def State.setOverload (s : State) (overloaded : Bool) : State :=
  let entered := overloaded && !s.pacing.overload
  let s := s.withPacing { s.pacing with overload := overloaded }
  if entered then s.post .carouselOverload .none (.quantity s.store.ring.length) else s

/-- LAPSE is posted if lapses were counted, and the count returns to 0 (R89). -/
def State.postLapses (s : State) : State :=
  if 0 < s.pacing.lapses then
    (s.post .lapse .none (.quantity s.pacing.lapses)).withPacing { s.pacing with lapses := 0 }
  else s

/-- The Pacing Unit takes a second mark: target, overload, one step of W_eff, stretched condition, LAPSE (R78 to R81,
R89; log 14). -/
def State.windowMark (s : State) : State :=
  let c := s.settings.current
  let target := targetWindow s.store.ring.length s.pacing.capacity c.windowConfigured c.guard
  let s := s.setOverload target.2
  let s := s.withPacing { s.pacing with window := stepWindow target.1 s.pacing.window }
  s.testStretched.postLapses

/-- The Pacing Unit takes the oldest second mark it has not taken, if there is one. -/
def State.windowStep (s : State) : State :=
  if s.due.window = 0 then s else (s.withDue { s.due with window := s.due.window - 1 }).windowMark

/-- WINDOW STEP (R80). -/
def execWindowStep (s : State) : Host.Outcome State Fault Refusal := s.live State.windowStep

/-- The states in which an event is announced on a cycle (R107). -/
def EvState.cycled : EvState → Bool
  | .onSale | .live | .overtime | .suspended | .ended => true
  | .planned | .closed | .void => false

/-- The event's announce interval has elapsed (R107). -/
def EventEntry.intervalDue (e : EventEntry) (now interval : Nat) : Bool :=
  e.state.cycled &&
  match e.lastAnnounced with
  | some t => t + interval ≤ now
  | none => true

/-- The announce interval elapses for event i, if it does (R107). The now_s of the check is the seconds count as it stands
when the Arbiter acts, also where the clock has advanced again since the mark was raised (log 37). -/
def State.checkInterval (s : State) (i : Nat) : State :=
  match s.event? i with
  | some e =>
    if e.intervalDue s.clock.seconds s.settings.inForce.announceInterval then s.requestAnnouncement i else s
  | none => s

/-- The Emission Arbiter takes a second mark: TIME-pending is set, the announce interval takes effect, and the events are
checked in ascending index (R105, R107, R168; logs 28 and 29). -/
def State.announceMark (s : State) : State :=
  let s := s.withArbiter { s.arbiter with timePending := true }
  let s := s.withSettings
    { s.settings with
      inForce := { s.settings.inForce with announceInterval := s.settings.current.announceInterval } }
  (List.range 32).foldl State.checkInterval s

/-- The Emission Arbiter takes the oldest second mark it has not taken, if there is one. -/
def State.announceCheck (s : State) : State :=
  if s.due.announce = 0 then s else (s.withDue { s.due with announce := s.due.announce - 1 }).announceMark

/-- ANNOUNCE INTERVAL CHECK (R107). -/
def execAnnounceIntervalCheck (s : State) : Host.Outcome State Fault Refusal := s.live State.announceCheck

/-! ### The rate interval (R75 to R77) -/

/-- The Pacing Unit after a rate interval with refresh share F. -/
def Pacing.interval (p : Pacing) (share : Nat) : Pacing :=
  let a := nextA16 p.seeded p.a16 p.slotCount
  { p with
    lastCount := p.slotCount, slotCount := 0, seeded := true, a16 := a, capacity := capacityOf a share, rateIn := 1000 }

/-- RATE INTERVAL (R76). -/
def execRateInterval (s : State) : Host.Outcome State Fault Refusal :=
  s.live fun s => s.withPacing (s.pacing.interval s.settings.current.refreshShare)

/-! ### Slot grants (R95 to R110) -/

/-- A grant at local time `us` is answered: it is the first, or comes 200 us or more after the last answered one (R95). -/
def Port.answers (p : Port) (us : Nat) : Bool :=
  match p.lastGrant with
  | some t => t + 200 ≤ us
  | none => true

/-- The effect of an answered grant on the starvation timer (R97). -/
def Port.fed (p : Port) (ranked : Bool) : Port :=
  if ranked && (p.starvation.isSome || p.starved) then { p with starvation := some 2000, starved := false } else p

/-- The record at the head of a list. -/
def GrantStore.headOf (g : GrantStore) (l : List Key) : Option GrantRecord :=
  match l.head? with
  | some k => g.find k
  | none => none

/-- The sources of R100; an ANNOUNCE source names its event with the entry. -/
inductive Source where
  | record (r : GrantRecord)
  | time
  | announce (i : Nat) (e : EventEntry)
  | filler
  deriving DecidableEq, Repr

/-- The head of the announcement list. -/
def State.announceHead (s : State) : Option (Nat × EventEntry) :=
  match s.arbiter.announcements with
  | i :: _ => (s.event? i).map fun e => (i, e)
  | [] => none

/-- The ring head, when the ring is in demand (R87). -/
def State.demandHead (s : State) : Option GrantRecord := if s.demand then s.store.headOf s.store.ring else none

/-- The first source in rank order that has something to send; filler alone in CONFIGURING and STANDDOWN (R99, R100). -/
def State.source (s : State) : Source :=
  if !s.sup.mode.ranked then .filler
  else
    match s.demandHead with
    | some r => .record r
    | none =>
      match s.store.headOf s.store.revoking with
      | some r => .record r
      | none =>
        if s.arbiter.timePending then .time
        else
          match s.announceHead with
          | some (i, e) => .announce i e
          | none =>
            match s.store.headOf s.store.prompt with
            | some r => .record r
            | none =>
              match s.store.headOf s.store.ring with
              | some r => .record r
              | none => .filler

/-- The ANNOUNCE frame of event i and its effects: the event leaves the list, its last announced second is set, and a
CLOSED or VOID event is retired (R108). -/
def State.announce (s : State) (i : Nat) (e : EventEntry) : FrameBody × State :=
  let body := FrameBody.announce i e.state (s.admitting i) e.blackout e.bound
  let s := s.withEvents (s.events.set i (some { e with lastAnnounced := some s.clock.seconds }))
  let finished := e.state == .closed || e.state == .void
  (body, s.withArbiter
    { s.arbiter with
      announcements := s.arbiter.announcements.tail,
      retired := if finished then s.arbiter.retired ||| BitVec.twoPow 32 i else s.arbiter.retired })

/-- The frame body that a source gives, with the source's effects; none is the filler (R101, R105, R108, R110). -/
def State.takeSource (s : State) : Source → Option FrameBody × State
  | .record r => (some (s.emit r).1, (s.emit r).2)
  | .time =>
    (some (.time s.clock.seconds s.clock.ms s.clock.locked), s.withArbiter { s.arbiter with timePending := false })
  | .announce i e => (some (s.announce i e).1, (s.announce i e).2)
  | .filler => (none, s)

/-- A frame loaded into the transfer; the sequence number rises for a frame that carries service (R95, R96, R109). CP_SDO
keeps its level until the first CP_SCK clock of the frame (log 38). -/
def State.loadFrame (s : State) (body : Option FrameBody) : State :=
  let seq := if body.isSome then s.arbiter.seq + 1 else s.arbiter.seq
  let s := s.withArbiter { s.arbiter with seq := seq }
  s.withPort { s.port with transfer := .shifting ⟨seq, body.getD .filler⟩ 256 }

/-- An answered slot grant, whole (R95). -/
def State.answerGrant (s : State) (us : Nat) : State :=
  let s := s.withPacing { s.pacing with slotCount := min 5000 (s.pacing.slotCount + 1) }
  let s := s.withPort (Port.fed { s.port with lastGrant := some us } s.sup.mode.ranked)
  let r := s.takeSource s.source
  r.2.loadFrame r.1

/-- SLOT GRANT at local oscillator time `us` in microseconds: answered, or ignored for its spacing (R95). -/
def execSlotGrant (us : Nat) (s : State) : Host.Outcome State Fault Refusal :=
  s.live fun s => if s.port.answers us then s.answerGrant us else s

/-! ### The frame clock and starvation (R96, R97) -/

/-- The port after one CP_SCK clock: the next bit goes out; with the last one the transfer is IDLE and CP_SDO low
(R96, log 22). -/
def Port.clock (p : Port) : Port :=
  match p.transfer with
  | .idle => p
  | .shifting f left =>
    let bit := f.bit (256 - left)
    if left ≤ 1 then { p with transfer := .idle, sdo := false, lastBit := bit }
    else { p with transfer := .shifting f (left - 1), sdo := bit, lastBit := bit }

/-- FRAME CLOCK (R96). -/
def execFrameClock (s : State) : Host.Outcome State Fault Refusal := s.live fun s => s.withPort s.port.clock

/-- The starvation timer runs out: the starved condition holds and CAROUSEL_STARVED is posted with R (R97). -/
def State.starve (s : State) : State :=
  if s.port.starvation.isSome then
    (s.withPort { s.port with starvation := none, starved := true }).post .carouselStarved .none
      (.quantity s.store.ring.length)
  else s

/-- STARVATION TIMER EXPIRY (R97). -/
def execStarvationTimerExpiry (s : State) : Host.Outcome State Fault Refusal := s.live State.starve

/-! ### Sweep visits (R115, R116, R119) -/

/-- The record with the smallest key greater than a walk position, START lying before every key (R112, R116). -/
def GrantStore.after (g : GrantStore) (position : Option Key) : Option GrantRecord :=
  g.records.find? fun r =>
    match position with
    | some k => k.before r.key
    | none => true

/-- A job's action on a record of its set; the answer is whether the record was changed (R44 to R46). -/
def State.jobAction (s : State) (kind : JobKind) (r : GrantRecord) : Bool × State :=
  match kind with
  | .extend => s.extendRecord r
  | .purge => s.purgeRecord r
  | .void => s.voidRecord r

/-- The walker after its running job is discarded: the pending job first in the order VOID, PURGE, EXTEND starts (R115). -/
def Walker.startNext (w : Walker) : Walker :=
  match w.pendingVoid, w.pendingPurge, w.pendingExtend with
  | some v, _, _ => { w with running := some ⟨.void, v, none, 0⟩, pendingVoid := none }
  | none, some v, _ => { w with running := some ⟨.purge, v, none, 0⟩, pendingPurge := none }
  | none, none, some v => { w with running := some ⟨.extend, v, none, 0⟩, pendingExtend := none }
  | none, none, none => { w with running := none }

/-- One visit of the running job, or its completion (R116, R119). -/
def State.visit (s : State) : State :=
  match s.walker.running with
  | none => s
  | some j =>
    match s.store.after j.position with
    | none =>
      let s := s.post .sweepDone .none (.sweep j.kind j.changed)
      s.withWalker s.walker.startNext
    | some r =>
      let a := if j.products.getLsbD r.key.product then s.jobAction j.kind r else (false, s)
      a.2.withWalker
        { s.walker with running := some { j with position := some r.key, changed := j.changed + a.1.toNat } }

/-- SWEEP VISIT (R116). -/
def execSweepVisit (s : State) : Host.Outcome State Fault Refusal := s.live State.visit

end Sys2Proof.Machine
end

