-- ==== Sys2Proof/Machine/ClockRules.lean ====
section
/-! DEFINITION. The Broadcast Clock: CLOCK SET, CLOCK ADVANCE, CLOCK HOLD, the milliseconds, the pulse and the loss timer
(R125 to R132). -/

namespace Sys2Proof.Machine

/-- The rule of CLOCK SET (R127). -/
def clockSetRule (seconds : BitVec 32) (ms : BitVec 16) (s : State) : Answer :=
  if 999 < ms.toNat then plainReply .badField s
  else plainReply .done (s.withClock { s.clock with seconds := seconds.toNat, ms := ms.toNat, isSet := true })

/-- CLOCK SET (R127). -/
def execClockSet (h : Hdr) (seconds : BitVec 32) (ms : BitVec 16) (s : State) : Host.Outcome State Fault Refusal :=
  serve (.clockSet h seconds ms) (clockSetRule seconds ms) s

/-- The rule of CLOCK ADVANCE (R128). -/
def clockAdvanceRule (n : BitVec 8) (s : State) : Answer :=
  if n.toNat < 1 || 60 < n.toNat then plainReply .badField s
  else if 0 < s.clock.hold then plainReply .wrongState s
  else if maxSecond < s.clock.seconds + n.toNat then plainReply .badField s
  else
    let t := s.clock.seconds + n.toNat
    (some (.done, .seconds t), (s.withClock { s.clock with seconds := t }).raiseSecondMark)

/-- CLOCK ADVANCE (R128). -/
def execClockAdvance (h : Hdr) (n : BitVec 8) (s : State) : Host.Outcome State Fault Refusal :=
  serve (.clockAdvance h n) (clockAdvanceRule n) s

/-- The rule of CLOCK HOLD (R129). -/
def clockHoldRule (n : BitVec 8) (s : State) : Answer :=
  if n.toNat < 1 || 60 < n.toNat then plainReply .badField s
  else if 0 < s.clock.hold then plainReply .wrongState s
  else plainReply .done (s.withClock { s.clock with hold := n.toNat * 1000 })

/-- CLOCK HOLD (R129). -/
def execClockHold (h : Hdr) (n : BitVec 8) (s : State) : Host.Outcome State Fault Refusal :=
  serve (.clockHold h n) (clockHoldRule n) s

/-- The milliseconds return to 0; the second advances unless a hold runs (R125). The return happens whatever the
milliseconds show, so that one run behind a pulse that has just set them to 0 advances the second again (log 3). -/
def State.rollover (s : State) : State :=
  let s := s.withClock { s.clock with ms := 0 }
  if s.clock.hold = 0 then s.advanceSecond else s

/-- MS ROLLOVER (R125). -/
def execMsRollover (s : State) : Host.Outcome State Fault Refusal := s.live State.rollover

/-- HOLD EXPIRES: hold remaining becomes 0 and the seconds count resumes (R129). -/
def execHoldExpires (s : State) : Host.Outcome State Fault Refusal :=
  s.live fun s => s.withClock { s.clock with hold := 0 }

/-- The clock re-phased: the second advances with a second mark if `advance`, and the milliseconds become 0
(R130 to R132). -/
def State.rephase (s : State) (advance : Bool) : State :=
  let s := s.withClock { s.clock with ms := 0 }
  if advance then s.advanceSecond else s

/-- A pulse in LOCKED with no hold running: on-phase (R130), ignored off-phase, or the third off-phase in a row (R131). -/
def State.lockedPulse (s : State) : State :=
  let ms := s.clock.ms
  let s := s.withClock { s.clock with loss := some 3000 }
  if ms ≤ 99 || 900 ≤ ms then
    (s.withClock { s.clock with offPhase := 0 }).rephase (900 ≤ ms)
  else if s.clock.offPhase < 2 then s.withClock { s.clock with offPhase := s.clock.offPhase + 1 }
  else (s.withClock { s.clock with offPhase := 0 }).rephase (500 ≤ ms)

/-- A pulse in LOST restores the reference (R132). -/
def State.restoringPulse (s : State) : State :=
  let ms := s.clock.ms
  let s := if s.clock.hold = 0 then s.rephase (500 ≤ ms) else s
  let reported := s.clock.lossReported
  let s := s.withClock { s.clock with locked := true, offPhase := 0, loss := some 3000, lossReported := false }
  if reported then s.post .referenceRestored .none (.quantity ms) else s

/-- The effect of a rising edge on PPS (R130 to R132). During a hold in LOCKED it only restarts the loss timer (R129). -/
def State.takePulse (s : State) : State :=
  if !s.clock.locked then s.restoringPulse
  else if s.clock.hold = 0 then s.lockedPulse
  else s.withClock { s.clock with loss := some 3000 }

/-- PULSE (R130). -/
def execPulse (s : State) : Host.Outcome State Fault Refusal := s.live State.takePulse

/-- The loss timer expires (R132). -/
def State.loseReference (s : State) : State :=
  match s.clock.loss with
  | some _ =>
    (s.withClock { s.clock with locked := false, offPhase := 0, loss := none, lossReported := true }).post
      .referenceLost .none (.quantity 0)
  | none => s

/-- LOSS TIMER EXPIRY (R132). -/
def execLossTimerExpiry (s : State) : Host.Outcome State Fault Refusal := s.live State.loseReference

end Sys2Proof.Machine
end

