-- ==== Sys2Proof/Machine/Cues.lean ====
section
/-! DEFINITION. The Cue Monitor: CUE BIND and CUE CLEAR, pin changes, accepted edges, chatter, cooling, and the reserved
line 0 (R137 to R147). -/

namespace Sys2Proof.Machine

/-- The context of a line. -/
def CueMonitor.line (c : CueMonitor) (n : Nat) : CueLine := c.lines.getD n .unbound

/-- The context of a line replaced. -/
def CueMonitor.setLine (c : CueMonitor) (n : Nat) (l : CueLine) : CueMonitor := { c with lines := c.lines.set n l }

/-- The context of a line replaced in the state. -/
def State.setLine (s : State) (n : Nat) (l : CueLine) : State := s.withCues (s.cues.setLine n l)

/-- The event of a line's binding, if its action is KICKOFF: the event whose flag a change of the binding bears on
(R138, R139). -/
def CueLine.kickoffEvent (l : CueLine) : Option Nat :=
  match l.binding with
  | some b => if b.action = .kickoff then some b.event else none
  | none => none

/-- The flags of the events that a change of binding bears on are set anew (R1, R138, R139). -/
def State.refreshFlags (s : State) (events : List (Option Nat)) : State :=
  (events.filterMap id).foldl State.refreshKickoffFlag s

/-! ### CUE BIND and CUE CLEAR (R138, R139) -/

/-- A line bound afresh: ARMED with the pin level as its reference (R138). -/
def CueLine.bound (b : Binding) (pin : Bool) : CueLine := ⟨.armed pin none [], some b, 0, none⟩

/-- The rule of CUE BIND. -/
def cueBindRule (line ev action level : BitVec 8) (debounce : BitVec 16) (s : State) : Answer :=
  match cueActionOf action with
  | none => plainReply .badField s
  | some a =>
    if 8 ≤ line.toNat || 32 ≤ ev.toNat || 2 ≤ level.toNat || debounce.toNat < 10 || 500 < debounce.toNat then
      plainReply .badField s
    else if s.reserved line.toNat then plainReply .inUse s
    else
      let s' := s.finishPass
      let old := s'.cues.line line.toNat
      let new := CueLine.bound ⟨ev.toNat, a, level.toNat == 1, debounce.toNat⟩ (s'.cues.pins.getLsbD line.toNat)
      (some (.done, .cueContext old),
        (s'.setLine line.toNat new).refreshFlags [old.kickoffEvent, new.kickoffEvent])

/-- CUE BIND (R138). -/
def execCueBind (h : Hdr) (line ev action level : BitVec 8) (debounce : BitVec 16) (s : State) :
    Host.Outcome State Fault Refusal :=
  serve (.cueBind h line ev action level debounce) (cueBindRule line ev action level debounce) s

/-- The checks of CUE CLEAR, the same for both forms: line and form, the reservation, an UNBOUND line (R139). -/
def cueClearRefusal (code : Nat) (line form : BitVec 8) (s : State) : Option Status :=
  if 8 ≤ line.toNat || form.toNat != code then some .badField
  else if s.reserved line.toNat then some .inUse
  else if (s.cues.line line.toNat).state = .unbound then some .wrongState
  else none

/-- The rule of CUE CLEAR, form UNBIND. -/
def cueUnbindRule (line form : BitVec 8) (s : State) : Answer :=
  match cueClearRefusal 1 line form s with
  | some status => plainReply status s
  | none =>
    let s' := s.finishPass
    let old := s'.cues.line line.toNat
    (some (.done, .cueContext old), (s'.setLine line.toNat .unbound).refreshFlags [old.kickoffEvent])

/-- CUE CLEAR UNBIND (R139). -/
def execCueClearUnbind (h : Hdr) (line form : BitVec 8) (s : State) : Host.Outcome State Fault Refusal :=
  serve (.cueClearUnbind h line form) (cueUnbindRule line form) s

/-- A line released: LOCKED_OUT returns to ARMED with the pin level as reference; the episode count becomes 0 (R139). -/
def CueLine.release (l : CueLine) (pin : Bool) : CueLine :=
  match l.state with
  | .lockedOut => { l with state := .armed pin none [], episodes := 0 }
  | _ => { l with episodes := 0 }

/-- The rule of CUE CLEAR, form RELEASE. -/
def cueReleaseRule (line form : BitVec 8) (s : State) : Answer :=
  match cueClearRefusal 2 line form s with
  | some status => plainReply status s
  | none =>
    let old := s.cues.line line.toNat
    (some (.done, .cueContext old), s.setLine line.toNat (old.release (s.cues.pins.getLsbD line.toNat)))

/-- CUE CLEAR RELEASE (R139). -/
def execCueClearRelease (h : Hdr) (line form : BitVec 8) (s : State) : Host.Outcome State Fault Refusal :=
  serve (.cueClearRelease h line form) (cueReleaseRule line form) s

/-! ### Pin changes (R140, R147) -/

/-- A line after its pin has gone to `level` (R140, R144, R145). -/
def CueLine.pinChange (l : CueLine) (level : Bool) : CueLine :=
  match l.state, l.binding with
  | .armed reference _ history, some b =>
    { l with state := .armed reference (if level = reference then none else some b.debounce) history }
  | _, _ => l

/-- The reserved line 0 after its pin has gone to `level`: the settling timer runs while the level and the condition
differ (R147). -/
def CueMonitor.settle (c : CueMonitor) (level : Bool) : CueMonitor :=
  { c with settling := if level = c.asserted then none else some 200 }

/-- The pin levels with one pin at `level`. -/
def setPin (pins : BitVec 8) (n : Nat) (level : Bool) : BitVec 8 :=
  if level then pins ||| BitVec.twoPow 8 n else pins &&& ~~~ BitVec.twoPow 8 n

/-- A cue pin goes to `level`; a pin that is there already does not change (R140, R147). -/
def State.pinChange (s : State) (n : Nat) (level : Bool) : State :=
  if s.cues.pins.getLsbD n = level ∨ 8 ≤ n then s
  else
    let c := { s.cues with pins := setPin s.cues.pins n level }
    if s.run ≠ .running then s.withCues c
    else if s.reserved n then s.withCues (c.settle level)
    else s.withCues (c.setLine n ((c.line n).pinChange level))

/-- CUE PIN CHANGE (R140). The pin is an input: without supply or with RESET_N low its level still changes, and no line
acts on it (log 23). -/
def execCuePinChange (line : Nat) (level : Bool) (s : State) : Host.Outcome State Fault Refusal :=
  .next (s.pinChange line level)

/-! ### Accepted edges and chatter (R140 to R143) -/

/-- The action that an accepted edge requests, if the binding acts on it (R141). -/
def CueAction.requested (a : CueAction) (intoActive : Bool) : Option Action :=
  match a, intoActive with
  | .kickoff, true => some .kickoff
  | .finish, true => some .finish
  | .overtime, true => some .overtime
  | .hold, true => some .suspend
  | .hold, false => some .resume
  | _, false => none

/-- The edge at local time `now` is the fifth of a burst (R143). -/
def isChatter (history : List Nat) (now : Nat) : Bool :=
  match history with
  | oldest :: _ => history.length == 4 && now ≤ oldest + 2000
  | [] => false

/-- The edge history with one more edge, the oldest leaving a history of four (R140). -/
def pushEdge (history : List Nat) (now : Nat) : List Nat :=
  if history.length < 4 then history ++ [now] else history.drop 1 ++ [now]

/-- A chatter episode begins on line n, whose context is l: COOLING, or LOCKED_OUT at the third (R143). -/
def State.beginEpisode (s : State) (n : Nat) (l : CueLine) : State :=
  let count := l.episodes + 1
  let l := { l with episodes := count, state := if count < 3 then .cooling 10000 else .lockedOut }
  let s := (s.setLine n l).post .cueChatter (.line n) (.quantity count)
  if count < 3 then s else s.post .cueLockedOut (.line n) (.quantity 3)

/-- The debounce timer of line n expires at local time `now`: the edge is accepted and stamped, the chatter test runs,
and the bound action may be requested (R140, R141, R143). -/
def State.acceptEdge (s : State) (n now : Nat) : State :=
  let l := s.cues.line n
  match l.state, l.binding with
  | .armed _ (some _) history, some b =>
    let pin := s.cues.pins.getLsbD n
    let intoActive := pin == b.active
    let l := { l with lastCapture := some ⟨s.clock.seconds, s.clock.ms, intoActive⟩ }
    if isChatter history now then s.beginEpisode n l
    else
      let s' := s.setLine n { l with state := .armed pin none (pushEdge history now) }
      match b.action.requested intoActive with
      | some a => s'.cueRequest n a b.event s.clock.seconds s.clock.ms
      | none => s'
  | _, _ => s

/-- DEBOUNCE EXPIRY (R140). -/
def execDebounceExpiry (line ms : Nat) (s : State) : Host.Outcome State Fault Refusal :=
  s.live fun s => s.acceptEdge line ms

/-- The cooling timer of line n expires: the line re-arms on its pin level, and a HOLD line found active requests
SUSPEND (R144). -/
def State.endCooling (s : State) (n : Nat) : State :=
  let l := s.cues.line n
  match l.state, l.binding with
  | .cooling _, some b =>
    let pin := s.cues.pins.getLsbD n
    let l := { l with state := .armed pin none [] }
    if b.action = .hold ∧ pin = b.active then
      let s' := s.setLine n { l with lastCapture := some ⟨s.clock.seconds, s.clock.ms, true⟩ }
      s'.cueRequest n .suspend b.event s.clock.seconds s.clock.ms
    else s.setLine n l
  | _, _ => s

/-- COOLING TIMER EXPIRY (R144). -/
def execCoolingTimerExpiry (line : Nat) (s : State) : Host.Outcome State Fault Refusal :=
  s.live fun s => s.endCooling line

/-- The settling timer expires: the asserted condition changes and is reported; in HOLDOVER under CUE_STANDDOWN a
condition that has come to hold makes the mode STANDDOWN (R147, R160). -/
def State.settlingDone (s : State) : State :=
  match s.cues.settling with
  | some _ =>
    let holds := !s.cues.asserted
    let s := s.withCues { s.cues with asserted := holds, settling := none }
    if holds ∧ s.sup.mode = .holdover ∧ s.sup.policy = .cueStanddown then s.enterStanddown true else s
  | none => s

/-- SETTLING TIMER EXPIRY (R147). -/
def execSettlingTimerExpiry (s : State) : Host.Outcome State Fault Refusal := s.live State.settlingDone

end Sys2Proof.Machine
end

