-- ==== Sys2Proof/Machine/EventActions.lean ====
section
/-! DEFINITION. EVENT ACTION, one meaning for each of its seven actions (R3, R6 to R11, R13, R17). -/

namespace Sys2Proof.Machine

/-- The rule of EVENT ACTION: index and action code, then existence, then the entry's state; DONE carries the new state
and bound (R14, R17). -/
def eventActionRule (a : Action) (idx code : BitVec 8) (s : State) : Answer :=
  if 32 ≤ idx.toNat || code != a.code then plainReply .badField s
  else
    let s' := s.finishPass
    if (s'.event? idx.toNat).isNone then plainReply .noEvent s'
    else
      match s'.requestAction idx.toNat a .command s'.clock.seconds s'.clock.ms with
      | none => plainReply .wrongState s'
      | some t =>
        match t.event? idx.toNat with
        | some e => (some (.done, .eventAction e.state e.bound), t)
        | none => plainReply .done t

/-- EVENT ACTION OPEN SALE (R6). -/
def execEventActionOpenSale (h : Hdr) (idx action : BitVec 8) (s : State) : Host.Outcome State Fault Refusal :=
  serve (.eventActionOpenSale h idx action) (eventActionRule .openSale idx action) s

/-- EVENT ACTION KICKOFF (R7). -/
def execEventActionKickoff (h : Hdr) (idx action : BitVec 8) (s : State) : Host.Outcome State Fault Refusal :=
  serve (.eventActionKickoff h idx action) (eventActionRule .kickoff idx action) s

/-- EVENT ACTION OVERTIME (R8). -/
def execEventActionOvertime (h : Hdr) (idx action : BitVec 8) (s : State) : Host.Outcome State Fault Refusal :=
  serve (.eventActionOvertime h idx action) (eventActionRule .overtime idx action) s

/-- EVENT ACTION SUSPEND (R9). -/
def execEventActionSuspend (h : Hdr) (idx action : BitVec 8) (s : State) : Host.Outcome State Fault Refusal :=
  serve (.eventActionSuspend h idx action) (eventActionRule .suspend idx action) s

/-- EVENT ACTION RESUME (R10). -/
def execEventActionResume (h : Hdr) (idx action : BitVec 8) (s : State) : Host.Outcome State Fault Refusal :=
  serve (.eventActionResume h idx action) (eventActionRule .resume idx action) s

/-- EVENT ACTION FINISH (R11). -/
def execEventActionFinish (h : Hdr) (idx action : BitVec 8) (s : State) : Host.Outcome State Fault Refusal :=
  serve (.eventActionFinish h idx action) (eventActionRule .finish idx action) s

/-- EVENT ACTION VOID (R13). -/
def execEventActionVoid (h : Hdr) (idx action : BitVec 8) (s : State) : Host.Outcome State Fault Refusal :=
  serve (.eventActionVoid h idx action) (eventActionRule .void idx action) s

end Sys2Proof.Machine
end

