-- ==== Sys2Proof/Machine/LinkRules.lean ====
section
/-! DEFINITION. The receiver of the Order Link, the end of a transmission, and a KIND that names no command (R170 to R175,
R183). -/

namespace Sys2Proof.Machine

/-! ### Receiving (R171, R172) -/

/-- LEN of the frame in assembly. -/
def frameLen (bytes : List Byte) : Nat := (byteAt bytes 1).toNat

/-- The body of the frame in assembly. -/
def frameBody (bytes : List Byte) : List Byte := (bytes.drop 2).take (frameLen bytes)

/-- The frame's CRC agrees: it covers LEN and the body, high byte first (R171). -/
def frameGood (bytes : List Byte) : Bool :=
  crc16 (byteAt bytes 1 :: frameBody bytes) == be16 bytes (frameLen bytes + 2)

/-- The frame is whole: START, LEN, the body and both CRC bytes. -/
def frameWhole (bytes : List Byte) : Bool := 2 ≤ bytes.length && bytes.length == frameLen bytes + 4

/-- A whole frame: held with the receiver armed and the error count lowered, or a frame error (R171 to R173). -/
def State.completeFrame (s : State) (bytes : List Byte) : State :=
  if frameGood bytes ∧ s.link.holding.length < 4 then
    let s := s.withLink
      { s.link with
        framing := .hunt true, holding := s.link.holding ++ [frameBody bytes], errors := s.link.errors - 1 }
    s.restartQuiet
  else s.frameError false

/-- A byte on OL_RXD (R171). -/
def State.receiveByte (s : State) (b : Byte) : State :=
  let s := s.withLink { s.link with lastByte := s.osc }
  match s.link.framing with
  | .hunt true => s.withLink { s.link with framing := if b = 0xA5 then .inFrame [b] else .hunt false }
  | .hunt false => s
  | .inFrame bytes =>
    if bytes.length = 1 ∧ (b.toNat < 2 ∨ 250 < b.toNat) then s.frameError false
    else
      let bytes := bytes ++ [b]
      if frameWhole bytes then s.completeFrame bytes else s.withLink { s.link with framing := .inFrame bytes }

/-- BYTE RECEIVED: the byte of a whole character on OL_RXD (R170, R171; log 36). -/
def execByteReceived (b : BitVec 8) (s : State) : Host.Outcome State Fault Refusal := s.live fun s => s.receiveByte b

/-- FRAME COMPLETES: the byte that completes a frame (R171); one reception rule serves all three byte rows (log 30). -/
def execFrameCompletes (b : BitVec 8) (s : State) : Host.Outcome State Fault Refusal := s.live fun s => s.receiveByte b

/-- LEN OUT OF RANGE (R172). -/
def execLenOutOfRange (b : BitVec 8) (s : State) : Host.Outcome State Fault Refusal := s.live fun s => s.receiveByte b

/-- The gap limit passes inside a frame: a frame error that leaves the receiver armed (R172). -/
def State.gapPassed (s : State) : State :=
  match s.link.framing with
  | .inFrame _ => s.frameError true
  | .hunt _ => s

/-- BYTE GAP EXPIRY (R172). -/
def execByteGapExpiry (s : State) : Host.Outcome State Fault Refusal := s.live State.gapPassed

/-- Four character times of idle in HUNT (R171). -/
def State.armHunt (s : State) : State :=
  match s.link.framing with
  | .hunt _ => s.withLink { s.link with framing := .hunt true }
  | .inFrame _ => s

/-- HUNT ARMED (R171). -/
def execHuntArmed (s : State) : Host.Outcome State Fault Refusal := s.live State.armHunt

/-! ### Sending (R174, R175, R181) -/

/-- The level of OL_TXD k bit times after the start of the frame being sent: that frame's levels, and the idle level after
it, on an idle transmitter, while RESET_N is held low and without supply (R170; logs 17, 36 and 39). -/
def State.olTxd (s : State) (k : Nat) : Bool :=
  match s.run, s.link.tx with
  | .running, o :: _ => (linkFrameLevels o.reply.body).getD k true
  | _, _ => true

/-- REPLY SENT (R174). -/
def execReplySent (s : State) : Host.Outcome State Fault Refusal := s.live State.sendDone

/-- UNKNOWN KIND: the reply carries KIND 0xFF and the TAG received (R174). -/
def execUnknownKind (h : Hdr) (kind : BitVec 8) (s : State) : Host.Outcome State Fault Refusal :=
  s.live fun s => (s.begin (.unknownKind h kind)).reply 0xFF h.tag .unknownKind .none

end Sys2Proof.Machine
end

