-- ==== Sys2Proof/Machine/Purchases.lean ====
section
/-! DEFINITION. PURCHASE, CANCEL and the batch commands (R51 to R71). -/

namespace Sys2Proof.Machine

/-- The rule of PURCHASE (R51 to R55). -/
def purchaseRule (addr : BitVec 32) (product : BitVec 8) (s : State) : Answer :=
  let r := s.purchaseTest addr product
  (some (r.1.status, .purchase r.1.partly r.1.region r.1.list), r.2)

/-- PURCHASE (R55). -/
def execPurchase (h : Hdr) (addr : BitVec 32) (product : BitVec 8) (s : State) : Host.Outcome State Fault Refusal :=
  serve (.purchase h addr product) (purchaseRule addr product) s

/-- The rule of CANCEL (R57). -/
def cancelRule (addr : BitVec 32) (product : BitVec 8) (s : State) : Answer :=
  match s.cancelTest addr product with
  | ((status, some (copies, empty)), s') => (some (status, .cancelled copies empty), s')
  | ((status, none), s') => plainReply status s'

/-- CANCEL (R57). -/
def execCancel (h : Hdr) (addr : BitVec 32) (product : BitVec 8) (s : State) : Host.Outcome State Fault Refusal :=
  serve (.cancel h addr product) (cancelRule addr product) s

/-- The rule of BATCH OPEN, an open batch having been cut before (R60, R66). -/
def batchOpenRule (tag op : BitVec 8) (count : BitVec 16) (s : State) : Answer :=
  if (op.toNat != 1 && op.toNat != 2) || count.toNat == 0 then plainReply .badField s
  else
    let cancels := op.toNat == 2
    (some (.done, .batchOpened cancels count.toNat),
      s.withLink { s.link with batch := some (.opened cancels count.toNat tag) })

/-- BATCH OPEN (R60). -/
def execBatchOpen (h : Hdr) (op : BitVec 8) (count : BitVec 16) (s : State) : Host.Outcome State Fault Refusal :=
  serve (.batchOpen h op count) (batchOpenRule h.tag op count) s

/-- The idle timer of an open batch restarts (R61, R67, R69). -/
def State.restartIdle (s : State) : State :=
  s.withLink { s.link with batch := s.link.batch.map fun b => { b with idle := 2000 } }

/-- The rule of BATCH DATA: with no batch open WRONG_STATE; else the frame is in service with its items, and no reply is
due (R61, R69). -/
def batchDataRule (items : List BatchEntry) (s : State) : Answer :=
  if s.link.batch.isNone then plainReply .wrongState s
  else (none, s.withLink { s.link with service := s.link.service.map fun v => { v with work := .items items } })

/-- BATCH DATA (R61, R69): taken or refused, it restarts the idle timer of an open batch (R67). -/
def execBatchData (h : Hdr) (items : List BatchEntry) (s : State) : Host.Outcome State Fault Refusal :=
  s.live fun s =>
    let c := Instr.batchData h items
    (s.begin c).restartIdle.serveTaken c (batchDataRule items)

/-- BATCH ITEM (R62, R63). -/
def execBatchItem (s : State) : Host.Outcome State Fault Refusal := s.live State.takeItem

/-- BATCH END: the summary is its reply (R64, R70, R71); without an open batch WRONG_STATE. -/
def batchEndRule (s : State) : Answer :=
  match s.link.batch with
  | some b => (some (.done, .summary .endedEarly b), s.withLink { s.link with batch := none })
  | none => plainReply .wrongState s

/-- BATCH END (R64). -/
def execBatchEnd (h : Hdr) (s : State) : Host.Outcome State Fault Refusal := serve (.batchEnd h) batchEndRule s

/-- BATCH IDLE TIMEOUT: the batch closes with an unsolicited TIMED_OUT summary (R67). -/
def execBatchIdleTimeout (s : State) : Host.Outcome State Fault Refusal :=
  s.live fun s => s.withLink (s.link.closeUnsolicited .timedOut)

end Sys2Proof.Machine
end

