-- ==== Sys2Proof/Machine/Resets.lean ====
section
/-! DEFINITION. RESET and the steps in which resets, power and the reset line act (R96, R158, R163, R164, R167). -/

namespace Sys2Proof.Machine

/-- A RESET taken: DONE is replied, and the reset acts once the reply has gone out (R163). -/
def State.orderReset (s : State) (form : ResetForm) : Answer :=
  plainReply .done (s.withLink { s.link with resetDue := some form })

/-- The rule of RESET TABLES; an undefined form is refused here (R163, log 19). -/
def resetTablesRule (form : BitVec 8) (s : State) : Answer :=
  if form.toNat ≠ 1 then plainReply .badField s else s.orderReset .tables

/-- RESET TABLES (R163). -/
def execResetTables (h : Hdr) (form : BitVec 8) (s : State) : Host.Outcome State Fault Refusal :=
  serve (.resetTables h form) (resetTablesRule form) s

/-- RESET FULL (R163). -/
def execResetFull (h : Hdr) (form : BitVec 8) (s : State) : Host.Outcome State Fault Refusal :=
  serve (.resetFull h form) (fun s => s.orderReset .full) s

/-- RESET TABLES ACTS (R163, log 26). -/
def execResetTablesActs (s : State) : Host.Outcome State Fault Refusal := s.live State.resetTablesActs

/-- RESET FULL ACTS (R163, R164, log 26). -/
def execResetFullActs (s : State) : Host.Outcome State Fault Refusal := s.live State.resetFullActs

/-- POWER ON: the release of power-on reset (R164). -/
def execPowerOn (policy1 policy0 : Bool) (s : State) : Host.Outcome State Fault Refusal :=
  .next (s.release policy1 policy0)

/-- RESET_N goes low: activity ends and the part is held; nothing happens without supply (R96, log 23). -/
def State.holdInReset (s : State) : State :=
  if s.run = .unpowered then s else { s.endActivity with run := .heldInReset }

/-- RESET LINE ASSERTED (R96). -/
def execResetLineAsserted (s : State) : Host.Outcome State Fault Refusal := .next s.holdInReset

/-- RESET LINE: the release of RESET_N (R164); nothing happens without supply (log 23). -/
def execResetLine (policy1 policy0 : Bool) (s : State) : Host.Outcome State Fault Refusal :=
  .next (if s.run = .unpowered then s else s.release policy1 policy0)

/-- The supply is lost: activity ends, and only the stored copy of the settings matters until the next release (R167). -/
def State.losePower (s : State) : State := { s.endActivity with run := .unpowered }

/-- POWER LOSS (R167). -/
def execPowerLoss (s : State) : Host.Outcome State Fault Refusal := .next s.losePower

end Sys2Proof.Machine
end

