-- ==== Sys2Proof/Machine/Shows.lean ====
section
/-! DEFINITION. STATUS, the four show commands and NOTICES (R28, R29, R48, R49, R177, R180). -/

namespace Sys2Proof.Machine

/-- The snapshot of STATUS (R177). -/
def State.report (s : State) : StatusReport where
  mode := s.sup.mode
  policy := s.sup.policy
  challenge := s.sup.challenge
  faults := s.sup.faults
  seconds := s.clock.seconds
  ms := s.clock.ms
  isSet := s.clock.isSet
  locked := s.clock.locked
  linkErrors := s.link.errors
  records := s.store.records.length
  promptLength := s.store.prompt.length
  ringLength := s.store.ring.length
  revokingLength := s.store.revoking.length
  window := s.pacing.window
  capacity := s.pacing.capacity
  a16 := if s.pacing.seeded then s.pacing.a16 else 0
  demand := s.demand
  lapseTotal := s.pacing.lapseTotal
  queued := s.notices.queue.length
  overflow := s.notices.overflow
  running := s.walker.running.map Job.kind
  pendingVoid := s.walker.pendingVoid.isSome
  pendingPurge := s.walker.pendingPurge.isSome
  pendingExtend := s.walker.pendingExtend.isSome
  seq := s.arbiter.seq
  lastCount := s.pacing.lastCount

/-- STATUS (R177). -/
def execStatus (h : Hdr) (s : State) : Host.Outcome State Fault Refusal :=
  serve (.status h) (fun s => (some (.done, .status s.report), s)) s

/-- The cue lines bound to an event, in ascending line order, with their actions (R28). -/
def CueMonitor.boundLines (c : CueMonitor) (i : Nat) : List (Nat × CueAction) :=
  c.lines.zipIdx.filterMap fun (l, n) =>
    match l.binding with
    | some b => if b.event = i then some (n, b.action) else none
    | none => none

/-- The rule of SHOW EVENT. -/
def showEventRule (idx : BitVec 8) (s : State) : Answer :=
  let i := idx.toNat
  if 32 ≤ i then plainReply .badField s
  else
    match s.event? i with
    | none => plainReply .noEvent s
    | some e =>
      (some (.done, .event i e e.bound (s.marks.find? fun m => m.event == i) (s.admitting i) (s.cues.boundLines i)), s)

/-- SHOW EVENT (R28). -/
def execShowEvent (h : Hdr) (idx : BitVec 8) (s : State) : Host.Outcome State Fault Refusal :=
  serve (.showEvent h idx) (showEventRule idx) s

/-- The rule of SHOW PRODUCT. -/
def showProductRule (idx : BitVec 8) (s : State) : Answer :=
  let p := idx.toNat
  if 48 ≤ p then plainReply .badField s
  else
    match s.product? p with
    | none => plainReply .noProduct s
    | some d =>
      let events := d.events.map fun i => (i, (s.event? i).map EventEntry.state, s.eventBound i)
      (some (.done, .product p d (s.products.getD p ⟨none, 0⟩).records events), s)

/-- SHOW PRODUCT (R29). -/
def execShowProduct (h : Hdr) (idx : BitVec 8) (s : State) : Host.Outcome State Fault Refusal :=
  serve (.showProduct h idx) (showProductRule idx) s

/-- The keys of a service list, head first. -/
def GrantStore.keysOf (g : GrantStore) : ListName → List Key
  | .prompt => g.prompt
  | .ring => g.ring
  | .revoking => g.revoking

/-- The rule of SHOW RECORD; the position counts from the head as 1 (R48). -/
def showRecordRule (block : BitVec 32) (product : BitVec 8) (s : State) : Answer :=
  if 1048576 ≤ block.toNat || 48 ≤ product.toNat then plainReply .badField s
  else if (s.product? product.toNat).isNone then plainReply .noProduct s
  else
    let k : Key := ⟨block.toNat, product.toNat⟩
    match s.store.find k with
    | none => plainReply .notHeld s
    | some r => (some (.done, .record r ((s.store.keysOf r.place.listName).idxOf k + 1)), s)

/-- SHOW RECORD (R48). -/
def execShowRecord (h : Hdr) (block : BitVec 32) (product : BitVec 8) (s : State) : Host.Outcome State Fault Refusal :=
  serve (.showRecord h block product) (showRecordRule block product) s

/-- The rule of SHOW DECODER: the records of the block that hold the slot, in ascending product order (R49). -/
def showDecoderRule (addr : BitVec 32) (s : State) : Answer :=
  if 67108864 ≤ addr.toNat then plainReply .badField s
  else
    let held := s.store.records.filter fun r => r.key.block == blockOf addr && r.map.getLsbD (slotOf addr)
    let entries := held.map fun r => (r.key.product, r.place.listName, r.stamp.map Stamp.horizon)
    (some (.done, .decoder entries), s)

/-- SHOW DECODER (R49). -/
def execShowDecoder (h : Hdr) (addr : BitVec 32) (s : State) : Host.Outcome State Fault Refusal :=
  serve (.showDecoder h addr) (showDecoderRule addr) s

/-- The rule of NOTICES: up to 8 of the oldest are removed, the count remaining and the overflow flag are read, and the
flag is cleared (R180). -/
def noticesRule (s : State) : Answer :=
  let left := s.notices.queue.drop 8
  (some (.done, .notices (s.notices.queue.take 8) left.length s.notices.overflow),
    s.withNotices { s.notices with queue := left, overflow := false })

/-- NOTICES (R180). -/
def execNotices (h : Hdr) (s : State) : Host.Outcome State Fault Refusal := serve (.notices h) noticesRule s

end Sys2Proof.Machine
end

