-- ==== Sys2Proof/Machine/SupervisionRules.lean ====
section
/-! DEFINITION. KEEPALIVE, MAINTENANCE and the supervision timers (R149, R151 to R156, R159, R162). -/

namespace Sys2Proof.Machine

/-! ### A completed keepalive (R152, R153, R162) -/

/-- What every completed keepalive does: a new challenge, no faults, a new period. -/
def State.completeKeepalive (s : State) : State :=
  let s := s.issueChallenge
  (s.withSup { s.sup with faults := 0 }).startPeriod

/-- The starvation timer starts at 2,000 ms with the starved condition clear (R97). -/
def State.startStarvation (s : State) : State := s.withPort { s.port with starvation := some 2000, starved := false }

/-- GO (R152, R135). -/
def State.go (s : State) : State :=
  let s := s.withSup { s.sup with mode := .serving, configTimer := none }
  let s := s.completeKeepalive
  (s.firePass s.clock.seconds).startStarvation

/-- The return to SERVING (R162). -/
def State.resume (s : State) : State :=
  let left := s.sup.mode
  let s := s.withSup { s.sup with mode := .serving, quiet := none }
  let s := s.completeKeepalive
  let s := s.withLink { s.link with errors := 0 }
  let s := if left = .standdown then s.startStarvation else s
  s.post .serviceResumed .none (.resumed left)

/-- The window is in force and the running period has not reached its half (R153). -/
def Supervision.early (u : Supervision) : Bool :=
  match u.period with
  | some p => u.windowOn && 2 * p.elapsed < p.length
  | none => false

/-- A correct final part (R152, R153, R162). -/
def State.finalPart (s : State) : Status × State :=
  match s.sup.mode with
  | .configuring => (.done, s.go)
  | .holdover | .standdown => (.done, s.resume)
  | .serving | .maintenance =>
    if s.sup.early then (.faultEarly, s.countFault .early) else (.done, s.completeKeepalive)

/-- A wrong part value (R151 item 4). -/
def State.wrongPart (s : State) : State :=
  if s.sup.mode.supervised then s.countFault .value else s.withSup { s.sup with collection := 0 }

/-- KEEPALIVE's checks and effects, in the order of R151. -/
def State.takePart (s : State) (part value : Nat) : Status × State :=
  let parts := s.settings.inForce.partsCount
  if s.sup.mode = .configuring ∧ s.clock.isSet = false then (.clockUnset, s)
  else if part < 1 ∨ parts < part ∨ 2 ^ bitsPerPart parts ≤ value then (.badField, s)
  else if part ≠ s.sup.collection + 1 then (.wrongState, s)
  else if value ≠ expectedPart s.sup.challenge parts part then (.faultValue, s.wrongPart)
  else if part < parts then (.partTaken, s.withSup { s.sup with collection := part })
  else s.finalPart

/-- The rule of KEEPALIVE: every reply carries the challenge and the parts in force as they stand after the command. -/
def keepaliveRule (part value : BitVec 8) (s : State) : Answer :=
  let r := s.takePart part.toNat value.toNat
  (some (r.1, .keepalive r.2.sup.challenge r.2.settings.inForce.partsCount), r.2)

/-- KEEPALIVE (R151). -/
def execKeepalive (h : Hdr) (part value : BitVec 8) (s : State) : Host.Outcome State Fault Refusal :=
  serve (.keepalive h part value) (keepaliveRule part value) s

/-! ### MAINTENANCE (R156) -/

/-- The mode changed with a new period (R153, R156). -/
def State.changeMode (s : State) (m : Mode) : State := (s.withSup { s.sup with mode := m }).startPeriod

/-- The rule of MAINTENANCE ENTER; the form is read before the mode's own state (R176). -/
def maintenanceEnterRule (form : BitVec 8) (s : State) : Answer :=
  if form.toNat ≠ 1 then plainReply .badField s
  else if s.sup.mode = .maintenance then plainReply .wrongState s
  else plainReply .done (s.changeMode .maintenance)

/-- MAINTENANCE ENTER (R156). -/
def execMaintenanceEnter (h : Hdr) (form : BitVec 8) (s : State) : Host.Outcome State Fault Refusal :=
  serve (.maintenanceEnter h form) (maintenanceEnterRule form) s

/-- MAINTENANCE EXIT (R156). -/
def execMaintenanceExit (h : Hdr) (form : BitVec 8) (s : State) : Host.Outcome State Fault Refusal :=
  serve (.maintenanceExit h form) (fun s => plainReply .done (s.changeMode .serving)) s

/-! ### Timers (R149, R154, R159) -/

/-- The running supervision period elapses (R154). -/
def State.periodElapsed (s : State) : State :=
  if s.sup.period.isSome ∧ s.sup.mode.supervised then s.countFault .missed else s

/-- PERIOD TIMER EXPIRY (R154). -/
def execPeriodTimerExpiry (s : State) : Host.Outcome State Fault Refusal := s.live State.periodElapsed

/-- The quiet timer runs out (R159). -/
def State.quietElapsed (s : State) : State := if s.sup.quiet.isSome then s.enterStanddown false else s

/-- QUIET TIMER EXPIRY (R159). -/
def execQuietTimerExpiry (s : State) : Host.Outcome State Fault Refusal := s.live State.quietElapsed

/-- The configuring window runs out: a reset with every effect of RESET TABLES, then CONFIG_TIMEOUT with the window that
has expired; the command in service, the frames being sent and a settings write go on (R149, R167, R169). -/
def State.windowExpired (s : State) : State :=
  if s.sup.configTimer.isSome then
    s.resetTables.post .configTimeout .none (.quantity s.settings.inForce.configWindow)
  else s

/-- CONFIGURING WINDOW EXPIRY (R149). -/
def execConfiguringWindowExpiry (s : State) : Host.Outcome State Fault Refusal := s.live State.windowExpired

end Sys2Proof.Machine
end

