-- ==== Sys2Proof/Machine/Tables.lean ====
section
/-! DEFINITION. The table commands: REGION RULE, EVENT, EVENT TIMES, BLACKOUT, PRODUCT (R14 to R16, R19, R20, R24, R26). -/

namespace Sys2Proof.Machine

/-! ### Region Map (R24) -/

/-- The rule of REGION RULE, set form. -/
def regionSetRule (form idx : BitVec 8) (pattern mask : BitVec 24) (region : BitVec 8) (s : State) : Answer :=
  if form.toNat != 1 || 32 ≤ idx.toNat || 1048576 ≤ pattern.toNat || 1048576 ≤ mask.toNat || 64 ≤ region.toNat then
    plainReply .badField s
  else
    plainReply .done
      (s.withRegions (s.regions.set idx.toNat (some ⟨pattern.setWidth 20, mask.setWidth 20, region.toNat⟩)))

/-- REGION RULE SET (R24). -/
def execRegionRuleSet (h : Hdr) (form idx : BitVec 8) (pattern mask : BitVec 24) (region : BitVec 8) (s : State) :
    Host.Outcome State Fault Refusal :=
  serve (.regionRuleSet h form idx pattern mask region) (regionSetRule form idx pattern mask region) s

/-- The rule of REGION RULE, clear form. -/
def regionClearRule (idx : BitVec 8) (s : State) : Answer :=
  if 32 ≤ idx.toNat then plainReply .badField s else plainReply .done (s.withRegions (s.regions.set idx.toNat none))

/-- REGION RULE CLEAR (R24). -/
def execRegionRuleClear (h : Hdr) (form idx : BitVec 8) (s : State) : Host.Outcome State Fault Refusal :=
  serve (.regionRuleClear h form idx) (regionClearRule idx) s

/-! ### Events (R15, R16, R26) -/

/-- The entry that a definition makes (R15). -/
def newEvent (so k e : BitVec 32) (late grace allow : BitVec 16) (cueBound : Bool) : EventEntry where
  state := .planned
  saleOpen := so.toNat
  kickoff := k.toNat
  nominalEnd := e.toNat
  late := late.toNat
  grace := grace.toNat
  allowance := if allow.toNat = 0 then 1800 else allow.toNat
  extension := 0
  actualKickoff := none
  finish := none
  suspension := none
  blackout := 0
  cueBound := cueBound
  lastAnnounced := none

/-- The mode admits a definition over this entry: EMPTY, or in CONFIGURING also PLANNED (R15). -/
def definable (mode : Mode) (e : Option EventEntry) : Bool :=
  match e with
  | none => true
  | some e => mode == .configuring && e.state == .planned

/-- The rule of EVENT. -/
def eventRule (idx : BitVec 8) (so k e : BitVec 32) (late grace allow : BitVec 16) (s : State) : Answer :=
  if 32 ≤ idx.toNat || !timesOk so k e || !windowsOk late grace allow then plainReply .badField s
  else
    let s' := s.finishPass
    if !definable s'.sup.mode (s'.event? idx.toNat) then plainReply .wrongState s'
    else
      plainReply .done
        (s'.transition idx.toNat (newEvent so k e late grace allow (s'.cues.kickoffBound idx.toNat)) none .command)

/-- EVENT (R15). -/
def execEvent (h : Hdr) (idx : BitVec 8) (so k e : BitVec 32) (late grace allow : BitVec 16) (s : State) :
    Host.Outcome State Fault Refusal :=
  serve (.event h idx so k e late grace allow) (eventRule idx so k e late grace allow) s

/-- The rule of EVENT TIMES. -/
def eventTimesRule (idx : BitVec 8) (so k e : BitVec 32) (s : State) : Answer :=
  if 32 ≤ idx.toNat || !timesOk so k e then plainReply .badField s
  else
    let s' := s.finishPass
    match s'.event? idx.toNat with
    | none => plainReply .noEvent s'
    | some x =>
      if x.state = .planned ∨ x.state = .onSale then
        let x' := { x with saleOpen := so.toNat, kickoff := k.toNat, nominalEnd := e.toNat }
        let s' := s'.withEvents (s'.events.set idx.toNat (some x'))
        plainReply .done (((s'.placeMark idx.toNat).reportEvent idx.toNat).requestAnnouncement idx.toNat)
      else plainReply .wrongState s'

/-- EVENT TIMES (R16). -/
def execEventTimes (h : Hdr) (idx : BitVec 8) (so k e : BitVec 32) (s : State) : Host.Outcome State Fault Refusal :=
  serve (.eventTimes h idx so k e) (eventTimesRule idx so k e) s

/-- The rule of BLACKOUT. -/
def blackoutRule (idx : BitVec 8) (regions : BitVec 64) (s : State) : Answer :=
  if 32 ≤ idx.toNat then plainReply .badField s
  else
    let s' := s.finishPass
    match s'.event? idx.toNat with
    | none => plainReply .noEvent s'
    | some x =>
      if x.state = .closed ∨ x.state = .void then plainReply .wrongState s'
      else
        let s' := s'.withEvents (s'.events.set idx.toNat (some { x with blackout := regions }))
        plainReply .done (s'.requestAnnouncement idx.toNat)

/-- BLACKOUT (R26). -/
def execBlackout (h : Hdr) (idx : BitVec 8) (regions : BitVec 64) (s : State) : Host.Outcome State Fault Refusal :=
  serve (.blackout h idx regions) (blackoutRule idx regions) s

/-! ### Products (R19 to R21) -/

/-- A product entry's definition replaced, its record count kept. -/
def State.setProduct (s : State) (p : Nat) (d : Option ProductDef) : State :=
  s.withProducts (s.products.modify p fun x => { x with defn := d })

/-- An announcement requested of each event of a list, in its order (R21). -/
def State.announceAll (s : State) (events : List Nat) : State := events.foldl State.requestAnnouncement s

/-- The event list of a product, empty while undefined. -/
def State.eventsOf (s : State) (p : Nat) : List Nat :=
  match s.product? p with
  | some d => d.events
  | none => []

/-- The rule of PRODUCT, define form: the fields in the order of R19, then IN_USE in MAINTENANCE (R14, R19). The events of
an old list are announced before those of the new one (log 15). -/
def productDefineRule (form idx kind : BitVec 8) (events : List (BitVec 8)) (s : State) : Answer :=
  let es := events.map BitVec.toNat
  match productKindOf kind with
  | none => plainReply .badField s
  | some k =>
    if form.toNat != 1 || 48 ≤ idx.toNat || !listSuits k es.length || es.any (32 ≤ ·) || !decide es.Nodup then
      plainReply .badField s
    else if es.any fun i => (s.event? i).isNone then plainReply .noEvent s
    else if es.any s.isOver then plainReply .wrongState s
    else if s.sup.mode = .maintenance ∧ (s.product? idx.toNat).isSome then plainReply .inUse s
    else
      let old := s.eventsOf idx.toNat
      let s' := s.setProduct idx.toNat (some ⟨k, es, productBound s es, .alive⟩)
      plainReply .done (s'.announceAll (old ++ es))

/-- PRODUCT DEFINE (R19). -/
def execProductDefine (h : Hdr) (form idx kind : BitVec 8) (events : List (BitVec 8)) (s : State) :
    Host.Outcome State Fault Refusal :=
  serve (.productDefine h form idx kind events) (productDefineRule form idx kind events) s

/-- A pending job without a product; discarded when its set becomes empty (R120). -/
def dropFromPending (p : Nat) (x : Option (BitVec 48)) : Option (BitVec 48) :=
  match x with
  | some v =>
    let v' := v &&& ~~~ BitVec.twoPow 48 p
    if v' = 0 then none else some v'
  | none => none

/-- Every job without a product; a running job whose set becomes empty walks on (R120). -/
def Walker.dropProduct (w : Walker) (p : Nat) : Walker where
  running := w.running.map fun j => { j with products := j.products &&& ~~~ BitVec.twoPow 48 p }
  pendingVoid := dropFromPending p w.pendingVoid
  pendingPurge := dropFromPending p w.pendingPurge
  pendingExtend := dropFromPending p w.pendingExtend

/-- The rule of PRODUCT, drop form. The announcements that R21 asks for join the list in the order of the product's event list
(log 15). -/
def productDropRule (idx : BitVec 8) (s : State) : Answer :=
  if 48 ≤ idx.toNat then plainReply .badField s
  else
    match s.product? idx.toNat with
    | none => plainReply .noProduct s
    | some d =>
      if 0 < (s.products.getD idx.toNat ⟨none, 0⟩).records then plainReply .inUse s
      else
        let s' := (s.setProduct idx.toNat none).withWalker (s.walker.dropProduct idx.toNat)
        plainReply .done (s'.announceAll d.events)

/-- PRODUCT DROP (R20). -/
def execProductDrop (h : Hdr) (form idx : BitVec 8) (s : State) : Host.Outcome State Fault Refusal :=
  serve (.productDrop h form idx) (productDropRule idx) s

end Sys2Proof.Machine
end

