-- ==== Sys2Proof/Machine/Dispatch.lean ====
section
/-! DEFINITION. One arm per command, each one call of its meaning. -/

namespace Sys2Proof.Machine

/-- The effect of a command on everything but the queue. -/
def exec (i : Instr) (s : State) : Host.Outcome State Fault Refusal :=
  match i with
  | .set h id value => Sys2Proof.Machine.execSet h id value s
  | .get h id => Sys2Proof.Machine.execGet h id s
  | .saveSettings h => Sys2Proof.Machine.execSaveSettings h s
  | .saveSettingsWriteComplete => Sys2Proof.Machine.execSaveSettingsWriteComplete s
  | .clockSet h seconds ms => Sys2Proof.Machine.execClockSet h seconds ms s
  | .clockAdvance h n => Sys2Proof.Machine.execClockAdvance h n s
  | .clockHold h n => Sys2Proof.Machine.execClockHold h n s
  | .regionRuleSet h form idx pattern mask region => Sys2Proof.Machine.execRegionRuleSet h form idx pattern mask region s
  | .regionRuleClear h form idx => Sys2Proof.Machine.execRegionRuleClear h form idx s
  | .event h idx so k e late grace allow => Sys2Proof.Machine.execEvent h idx so k e late grace allow s
  | .eventTimes h idx so k e => Sys2Proof.Machine.execEventTimes h idx so k e s
  | .blackout h idx regions => Sys2Proof.Machine.execBlackout h idx regions s
  | .productDefine h form idx kind events => Sys2Proof.Machine.execProductDefine h form idx kind events s
  | .productDrop h form idx => Sys2Proof.Machine.execProductDrop h form idx s
  | .cueBind h line ev action level debounce => Sys2Proof.Machine.execCueBind h line ev action level debounce s
  | .cueClearUnbind h line form => Sys2Proof.Machine.execCueClearUnbind h line form s
  | .cueClearRelease h line form => Sys2Proof.Machine.execCueClearRelease h line form s
  | .keepalive h part value => Sys2Proof.Machine.execKeepalive h part value s
  | .maintenanceEnter h form => Sys2Proof.Machine.execMaintenanceEnter h form s
  | .maintenanceExit h form => Sys2Proof.Machine.execMaintenanceExit h form s
  | .eventActionOpenSale h idx action => Sys2Proof.Machine.execEventActionOpenSale h idx action s
  | .eventActionKickoff h idx action => Sys2Proof.Machine.execEventActionKickoff h idx action s
  | .eventActionOvertime h idx action => Sys2Proof.Machine.execEventActionOvertime h idx action s
  | .eventActionSuspend h idx action => Sys2Proof.Machine.execEventActionSuspend h idx action s
  | .eventActionResume h idx action => Sys2Proof.Machine.execEventActionResume h idx action s
  | .eventActionFinish h idx action => Sys2Proof.Machine.execEventActionFinish h idx action s
  | .eventActionVoid h idx action => Sys2Proof.Machine.execEventActionVoid h idx action s
  | .purchase h addr product => Sys2Proof.Machine.execPurchase h addr product s
  | .cancel h addr product => Sys2Proof.Machine.execCancel h addr product s
  | .batchOpen h op count => Sys2Proof.Machine.execBatchOpen h op count s
  | .batchData h items => Sys2Proof.Machine.execBatchData h items s
  | .batchItem => Sys2Proof.Machine.execBatchItem s
  | .batchEnd h => Sys2Proof.Machine.execBatchEnd h s
  | .status h => Sys2Proof.Machine.execStatus h s
  | .showEvent h idx => Sys2Proof.Machine.execShowEvent h idx s
  | .showProduct h idx => Sys2Proof.Machine.execShowProduct h idx s
  | .showRecord h block product => Sys2Proof.Machine.execShowRecord h block product s
  | .showDecoder h addr => Sys2Proof.Machine.execShowDecoder h addr s
  | .notices h => Sys2Proof.Machine.execNotices h s
  | .resetTables h form => Sys2Proof.Machine.execResetTables h form s
  | .resetFull h form => Sys2Proof.Machine.execResetFull h form s
  | .unknownKind h kind => Sys2Proof.Machine.execUnknownKind h kind s
  | .resetTablesActs => Sys2Proof.Machine.execResetTablesActs s
  | .resetFullActs => Sys2Proof.Machine.execResetFullActs s
  | .powerOn policy1 policy0 => Sys2Proof.Machine.execPowerOn policy1 policy0 s
  | .resetLineAsserted => Sys2Proof.Machine.execResetLineAsserted s
  | .resetLine policy1 policy0 => Sys2Proof.Machine.execResetLine policy1 policy0 s
  | .configuringWindowExpiry => Sys2Proof.Machine.execConfiguringWindowExpiry s
  | .frameCompletes b => Sys2Proof.Machine.execFrameCompletes b s
  | .lenOutOfRange b => Sys2Proof.Machine.execLenOutOfRange b s
  | .byteGapExpiry => Sys2Proof.Machine.execByteGapExpiry s
  | .huntArmed => Sys2Proof.Machine.execHuntArmed s
  | .replySent => Sys2Proof.Machine.execReplySent s
  | .batchIdleTimeout => Sys2Proof.Machine.execBatchIdleTimeout s
  | .msRollover => Sys2Proof.Machine.execMsRollover s
  | .markFiring => Sys2Proof.Machine.execMarkFiring s
  | .windowStep => Sys2Proof.Machine.execWindowStep s
  | .announceIntervalCheck => Sys2Proof.Machine.execAnnounceIntervalCheck s
  | .rateInterval => Sys2Proof.Machine.execRateInterval s
  | .pulse => Sys2Proof.Machine.execPulse s
  | .lossTimerExpiry => Sys2Proof.Machine.execLossTimerExpiry s
  | .holdExpires => Sys2Proof.Machine.execHoldExpires s
  | .sweepVisit => Sys2Proof.Machine.execSweepVisit s
  | .slotGrant us => Sys2Proof.Machine.execSlotGrant us s
  | .starvationTimerExpiry => Sys2Proof.Machine.execStarvationTimerExpiry s
  | .cuePinChange line level => Sys2Proof.Machine.execCuePinChange line level s
  | .debounceExpiry line ms => Sys2Proof.Machine.execDebounceExpiry line ms s
  | .coolingTimerExpiry line => Sys2Proof.Machine.execCoolingTimerExpiry line s
  | .settlingTimerExpiry => Sys2Proof.Machine.execSettlingTimerExpiry s
  | .periodTimerExpiry => Sys2Proof.Machine.execPeriodTimerExpiry s
  | .quietTimerExpiry => Sys2Proof.Machine.execQuietTimerExpiry s
  | .byteReceived b => Sys2Proof.Machine.execByteReceived b s
  | .frameClock => Sys2Proof.Machine.execFrameClock s
  | .powerLoss => Sys2Proof.Machine.execPowerLoss s

end Sys2Proof.Machine
end

