-- ==== Sys2Proof/Machine/Idle.lean ====
section
/-! DEFINITION. What the block does by itself when no command waits: the row that has become due joins the queue, and with
nothing due one millisecond of the local oscillator passes (logs 1, 2, 11 and 17). -/

namespace Sys2Proof.Machine

/-! ### Rows that are due -/

/-- One row, where a condition holds. -/
def dueIf (b : Bool) (c : Instr) : List Instr := if b then [c] else []

/-- A timer has run out. -/
def expired (t : Option Nat) : Bool := t == some 0

/-- The link is free to take a command (R174). -/
def Link.free (l : Link) : Bool := l.service.isNone && l.tx.isEmpty && l.unsolicited.isNone && l.resetDue.isNone

/-- The command of the oldest held frame, when the link is free (R174). -/
def Link.nextCommand (l : Link) : List Instr :=
  match l.holding with
  | f :: _ => if l.free then (decodeFrame f).toList else []
  | [] => []

/-- The rows of the link that are due: the items, the end of a write, a frame sent, a RESET acting, a held frame taken,
an idle batch (R62, R67, R163, R167, R174). A RESET acts once the transmitter is empty, so after a summary that was waiting
behind its reply (log 35). -/
def State.linkRows (s : State) : List Instr :=
  dueIf (match s.link.service with
    | some v => v.hasItems
    | none => false) .batchItem ++
  dueIf (match s.settings.writing with
    | some (_, left) => left == 0
    | none => false) .saveSettingsWriteComplete ++
  dueIf (!s.link.tx.isEmpty) .replySent ++
  (if s.link.service.isNone && s.link.tx.isEmpty then
    match s.link.resetDue with
    | some .tables => [Instr.resetTablesActs]
    | some .full => [Instr.resetFullActs]
    | none => []
  else []) ++
  s.link.nextCommand ++
  dueIf (match s.link.batch with
    | some b => b.idle == 0
    | none => false) .batchIdleTimeout

/-- The row of the receiver that is due after `gap` ms without a byte at a baud rate: 4 character times of idle arm the
receiver, and more than 10 inside a frame are a gap error (R170 to R172). -/
def Framing.rows (f : Framing) (gap baud : Nat) : List Instr :=
  match f with
  | .hunt armed => dueIf (!armed && 40000 ≤ gap * baud) .huntArmed
  | .inFrame _ => dueIf (100000 < gap * baud) .byteGapExpiry

/-- The rows of outstanding second marks, of a running sweep, and of the timers of the clock, the carousel and the
supervision (R75, R97, R116, R126, R132, R147, R149, R154, R159). -/
def State.timedRows (s : State) : List Instr :=
  dueIf (!s.due.passes.isEmpty) .markFiring ++
  dueIf (0 < s.due.window) .windowStep ++
  dueIf (0 < s.due.announce) .announceIntervalCheck ++
  dueIf s.walker.running.isSome .sweepVisit ++
  dueIf (s.pacing.rateIn == 0) .rateInterval ++
  dueIf (expired s.clock.loss) .lossTimerExpiry ++
  dueIf (expired s.port.starvation) .starvationTimerExpiry ++
  dueIf (expired s.cues.settling) .settlingTimerExpiry ++
  dueIf (match s.sup.period with
    | some p => p.length ≤ p.elapsed
    | none => false) .periodTimerExpiry ++
  dueIf (expired s.sup.configTimer) .configuringWindowExpiry ++
  dueIf (expired s.sup.quiet) .quietTimerExpiry

/-- The rows of the cue lines that are due at local time `now` (R140, R144). -/
def CueMonitor.rows (c : CueMonitor) (now : Nat) : List Instr :=
  c.lines.zipIdx.flatMap fun (l, n) =>
    match l.state with
    | .armed _ (some 0) _ => [Instr.debounceExpiry n now]
    | .cooling 0 => [Instr.coolingTimerExpiry n]
    | _ => []

/-- Every row that is due. -/
def State.dueRows (s : State) : List Instr :=
  s.linkRows ++ s.link.framing.rows (s.osc - s.link.lastByte) (baudOf s.settings.inForce.linkRate) ++ s.timedRows ++
  s.cues.rows s.osc

/-! ### One millisecond of the local oscillator (R125) -/

/-- A running timer one millisecond later. -/
def tickTimer (t : Option Nat) : Option Nat := t.map (· - 1)

/-- A cue line one millisecond later (R140, R144). -/
def CueLine.tick (l : CueLine) : CueLine :=
  match l.state with
  | .armed reference debounce history => { l with state := .armed reference (tickTimer debounce) history }
  | .cooling left => { l with state := .cooling (left - 1) }
  | _ => l

/-- The timers one millisecond later. -/
def State.tickTimers (s : State) : State :=
  let s := s.withSup
    { s.sup with
      period := s.sup.period.map fun p => { p with elapsed := p.elapsed + 1 }
      configTimer := tickTimer s.sup.configTimer, quiet := tickTimer s.sup.quiet }
  let s := s.withSettings { s.settings with writing := s.settings.writing.map fun (c, left) => (c, left - 1) }
  let s := s.withPacing { s.pacing with rateIn := s.pacing.rateIn - 1 }
  let s := s.withPort { s.port with starvation := tickTimer s.port.starvation }
  let s := s.withCues { s.cues with lines := s.cues.lines.map CueLine.tick, settling := tickTimer s.cues.settling }
  s.withLink { s.link with batch := s.link.batch.map fun b => { b with idle := b.idle - 1 } }

/-- The broadcast clock one millisecond later. Where the milliseconds pass 999, or the hold reaches 0, the row that says
so joins the queue. Where both fall together, as they do at the end of a hold taken at millisecond 0, the milliseconds return
before the hold ends: that return too advances no second, so that the time stays n seconds behind (R125, R129). Both go ahead
of the other rows that fall due in the same millisecond (log 2). -/
def State.tickClock (s : State) : State :=
  let c := s.clock
  let ends := c.hold = 1
  let turns := 999 ≤ c.ms
  let s := s.withClock
    { c with
      ms := if turns then c.ms else c.ms + 1, hold := if ends then 1 else c.hold - 1, loss := tickTimer c.loss }
  s.withPending (s.pending ++ (dueIf turns .msRollover ++ dueIf ends .holdExpires))

/-- One millisecond passes. -/
def State.tick (s : State) : State := ({ s with osc := s.osc + 1 } : State).tickTimers.tickClock

/-- The step of a block with an empty queue. A part held in reset or without supply does nothing (log 23). -/
def State.idle (s : State) : State :=
  if s.run ≠ .running then s
  else
    match s.dueRows with
    | [] => s.tick
    | [c] => s.withPending [c]
    | c :: c' :: rest =>
      let rows := c :: c' :: rest
      let pick := rows.getD (Config.dueChoice s.choices % rows.length) c
      ({ s with choices := s.choices + 1 } : State).withPending [pick]

end Sys2Proof.Machine
end

