-- ==== Sys2Proof/WellFormed.lean ====
section
/-! DEFINITION. Which commands a sender can mean: the checks below refuse terms that no frame and no pin spells. -/

namespace Sys2Proof

/-- KIND bytes that name a command (R183). -/
def knownKind (kind : Byte) : Bool := 0x01 ≤ kind.toNat && kind.toNat ≤ 0x1C

/-- A body has 2 to 250 bytes (R171). -/
def bodyLengthOk (h : Hdr) : Bool := 2 ≤ h.len && h.len ≤ 250

/-- The form or action byte agrees with the row, a byte that names no row standing in the first row (log 19), lists have
the length the body leaves them (R183, R185), lines are 0..7 (R137), and an unknown kind is unknown. -/
def Instr.operandsOk : Instr → Bool
  | .regionRuleSet _ form .. => form != 2
  | .regionRuleClear _ form _ => form == 2
  | .productDefine h form _ _ es => form != 2 && es.length == h.len - 5
  | .productDrop _ form _ => form == 2
  | .cueClearUnbind _ _ form => form != 2
  | .cueClearRelease _ _ form => form == 2
  | .maintenanceEnter _ form => form != 2
  | .maintenanceExit _ form => form == 2
  | .eventActionOpenSale _ _ a => !(2 ≤ a.toNat && a.toNat ≤ 7)
  | .eventActionKickoff _ _ a => a == 2
  | .eventActionOvertime _ _ a => a == 3
  | .eventActionSuspend _ _ a => a == 4
  | .eventActionResume _ _ a => a == 5
  | .eventActionFinish _ _ a => a == 6
  | .eventActionVoid _ _ a => a == 7
  | .batchData h items => items.length == (h.len - 2) / 5
  | .resetTables _ form => form != 2
  | .resetFull _ form => form == 2
  | .unknownKind _ kind => !knownKind kind
  | .cuePinChange line _ | .debounceExpiry line _ | .coolingTimerExpiry line => line < 8
  | _ => true

/-- A well-formed command: its body length is one a frame can have and its operands agree with the row. -/
def Instr.wellFormed (c : Instr) : Bool :=
  (match linkFrame c with
    | some (_, h, _) => bodyLengthOk h
    | none => true) && c.operandsOk

end Sys2Proof
end

