-- ==== Sys2Proof/Safety.lean ====
section
/-! DEFINITION. The terms in which claims about runs are stated: a part ready for a command, the link after an answer, and
the conditions that every step keeps. -/

namespace Sys2Proof.Machine

/-! ### Taking and answering a command (R174, R175) -/

/-- The part runs, and the Order Link is free to take a command. -/
abbrev State.ready (s : State) : Prop := s.run = .running ∧ s.link.free = true

/-- The state in which a ready part has taken command c, cut the batch that c cuts, and stands in its service. -/
def State.taken (s : State) (c : Instr) : State :=
  (s.takeFrame c).withLink
    { (s.takeFrame c).link with
      tx := s.link.cutSummary (kindOf c), batch := s.link.cutBatch (kindOf c),
      service := some ⟨kindOf c, (hdrOf c).tag, .replying⟩ }

/-- The state `t` with the reply of command c handed to the transmitter: KIND plus 0x80, the TAG, a status and fields. -/
def State.answer (t : State) (c : Instr) (status : Status) (fields : ReplyFields) : State :=
  t.reply (kindOf c + 0x80) (hdrOf c).tag status fields

/-! ### Terms of the statements -/

/-- The modes in which SET and SAVE SETTINGS are served (R165, R167). -/
def settingModes (m : Mode) : Prop := m = .configuring ∨ m = .serving ∨ m = .maintenance

/-- A second mark raised with the clock at x (R126). -/
def marked (s : State) (x : Clock) : State :=
  (s.withClock x).withDue
    { s.due with
      passes := s.due.passes ++ [x.seconds], window := s.due.window + 1, announce := s.due.announce + 1 }

/-- The Emission Arbiter after an announcement of event i, which is not EMPTY, is requested: i joins the tail of the list
unless it is listed or retired (R106). -/
def Arbiter.asked (a : Arbiter) (i : Nat) : Arbiter :=
  if i ∈ a.announcements ∨ a.retired.getLsbD i = true then a else { a with announcements := a.announcements ++ [i] }

/-- What a transition of event i to the entry e leaves: the entry, the mark its state needs in its place in the list, the
report to the Product Table on the new entry, an announcement requested, and the notice EVENT_STATE, behind EXTENSION_CAPPED
where an extension was cut (in the order of log 14); nothing else changes (R4, R5). What a report does is said of
`State.reportEvent` in its own statement. -/
def TransitionTo (s t : State) (i : Nat) (e : EventEntry) (cause : Cause) (capped : Option Nat) : Prop :=
  t.event? i = some e ∧ t.events = s.events.set i (some e) ∧
  t.marks.find? (fun m => m.event == i) = e.markFor i s.settings.current.kickoffTolerance ∧
  t.marks.filter (fun m => m.event != i) = s.marks.filter (fun m => m.event != i) ∧
  (s.marks.Pairwise (fun a b => a.before b = true) → t.marks.Pairwise (fun a b => a.before b = true)) ∧
  (let r := (s.withEvents t.events).reportEvent i
   t.products = r.products ∧ t.walker = r.walker ∧ t.choices = r.choices) ∧
  t.arbiter = s.arbiter.asked i ∧
  t.notices =
    ((match capped with
      | some n => s.post .extensionCapped (.event i) (.quantity n)
      | none => s).post .eventState (.event i) (.eventState e.state cause)).notices ∧
  t = { s with
    events := t.events, marks := t.marks, products := t.products, walker := t.walker, choices := t.choices,
    arbiter := t.arbiter, notices := t.notices }

/-- The command of an action (R17, R187). -/
def actionCommand (h : Hdr) (idx : BitVec 8) : Action → Option Instr
  | .openSale => some (.eventActionOpenSale h idx 1)
  | .kickoff => some (.eventActionKickoff h idx 2)
  | .overtime => some (.eventActionOvertime h idx 3)
  | .suspend => some (.eventActionSuspend h idx 4)
  | .resume => some (.eventActionResume h idx 5)
  | .finish => some (.eventActionFinish h idx 6)
  | .void => some (.eventActionVoid h idx 7)
  | .close => none

/-- The entry that a requested action makes of x at a request time, with the seconds an extension was cut by, as the rules
of section 1.2 give it; none where the state has no entry for it (R6 to R13). -/
def entryAfter (x : EventEntry) (a : Action) (seconds ms : Nat) : Option (EventEntry × Option Nat) :=
  let live := x.state = .live ∨ x.state = .overtime
  match a with
  | .openSale => if x.state = .planned then some ({ x with state := .onSale }, none) else none
  | .kickoff => if x.state = .onSale then some ({ x with state := .live, actualKickoff := some seconds }, none) else none
  | .overtime =>
    if live then
      some ({ x with state := .overtime, extension := min (x.extension + x.allowance) 7200 },
        if 7200 < x.extension + x.allowance then some (x.extension + x.allowance - 7200) else none)
    else none
  | .suspend =>
    if live then some ({ x with state := .suspended, suspension := some ⟨seconds, ms, x.state⟩ }, none) else none
  | .resume =>
    match x.suspension with
    | some p =>
      let lost := (seconds * 1000 + ms - (p.seconds * 1000 + p.ms) + 999) / 1000
      if x.state = .suspended then
        some ({ x with state := p.before, extension := min (x.extension + lost) 7200, suspension := none },
          if 7200 < x.extension + lost then some (x.extension + lost - 7200) else none)
      else none
    | none => none
  | .finish =>
    if live ∨ x.state = .suspended then
      some ({ x with state := .ended, finish := some seconds, suspension := none }, none)
    else none
  | .void =>
    if x.state = .planned ∨ x.state = .onSale ∨ live ∨ x.state = .suspended then
      some ({ x with state := .void, suspension := none }, none)
    else none
  | .close => if x.state = .ended then some ({ x with state := .closed }, none) else none

/-- A firing pass against `now`, firing by firing: the first mark, if its time is reached, makes its event's transition
with cause timer at `now` with 0 ms, until no mark is due (R134, R135). -/
inductive FiringPass (now : Nat) : State → State → Prop
  | ended (s : State) (h : ∀ m ∈ s.marks, now < m.time) : FiringPass now s s
  | fires (s u t : State) (m : Mark) (rest : List Mark) (x y : EventEntry) (first : s.marks = m :: rest)
      (due : m.time ≤ now) (entry : s.event? m.event = some x)
      (acts : entryAfter x m.kind.action now 0 = some (y, none)) (fired : TransitionTo s u m.event y .timer none)
      (goesOn : FiringPass now u t) : FiringPass now s t

/-- The correct final part of the answer to the challenge (R150, R151). -/
def IsFinalPart (s : State) (part value : BitVec 8) : Prop :=
  let parts := s.settings.inForce.partsCount
  (parts = 1 ∨ parts = 2 ∨ parts = 4) ∧ part.toNat = parts ∧ s.sup.collection + 1 = parts ∧
  value.toNat = (255 - s.sup.challenge) % 2 ^ (8 / parts)

/-- The settings after a supervision period has started: the period's settings are in force (R153, R168). -/
def periodSettings (x : SettingsStore) : SettingsStore :=
  { x with
    inForce := { x.inForce with
      supervisionPeriod := x.current.supervisionPeriod, windowMode := x.current.windowMode,
      maintenancePeriod := x.current.maintenancePeriod } }

/-- A period from 0 in the mode m with the current settings (R153). -/
def periodOf (c : Settings) (m : Mode) : Period := ⟨if m = .serving then c.supervisionPeriod else c.maintenancePeriod * 1000, 0⟩

/-- The window of a period in the mode m: the window mode setting in SERVING, off elsewhere (R153). -/
def windowOf (c : Settings) (m : Mode) : Bool := decide (m = .serving) && c.windowMode == 1

/-- What a completed keepalive leaves of the supervision in the mode m: a new challenge that differs, in the parts count
setting, no collection, no faults, and a period running from 0 with the settings of that mode; the policy and all other
settings stay, and what becomes of the two other timers the statements say (R150, R152, R153, R162). -/
def KeepaliveCompleted (s t : State) (m : Mode) : Prop :=
  1 ≤ t.sup.challenge ∧ t.sup.challenge ≤ 254 ∧ t.sup.challenge ≠ s.sup.challenge ∧
  t.sup = { s.sup with
    mode := m, challenge := t.sup.challenge, collection := 0, faults := 0, period := some (periodOf s.settings.current m),
    windowOn := windowOf s.settings.current m, configTimer := t.sup.configTimer, quiet := t.sup.quiet } ∧
  t.settings = (let x := periodSettings s.settings
    { x with inForce := { x.inForce with partsCount := s.settings.current.partsCount } })

/-- What entry to HOLDOVER leaves: no period, collection or fault, an open batch closed with its CUT summary, which goes out
at once where no command is in service and the transmitter is idle, a BATCH DATA frame out of service (log 24),
HOLDOVER_ENTERED, and the policy's entry action: an EXTEND over every product, the quiet timer, or, with line 0 asserted,
STANDDOWN in the same step (R68, R122, R157, R158, R160, R161). -/
def HoldoverEntered (s t : State) (byLink : Bool) : Prop :=
  let standsDown := s.sup.policy = .cueStanddown ∧ s.cues.asserted = true
  let held := s.post .holdoverEntered .none (.holdover byLink)
  t.sup = { s.sup with
    mode := if standsDown then .standdown else .holdover, period := none, windowOn := false, collection := 0, faults := 0,
    quiet :=
      if s.sup.policy = .quietStanddown then some (s.settings.current.quietTime * 1000)
      else if standsDown then none else s.sup.quiet } ∧
  t.link =
    (match s.link.batch with
    | none => s.link
    | some b =>
      let summary : Reply := ⟨0x95, b.tag, .done, .summary .cut b⟩
      let service := s.link.service.filter fun v => !v.hasItems
      if service = none ∧ s.link.tx = [] then
        { s.link with batch := none, service := none, tx := [⟨summary, false⟩], unsolicited := none }
      else { s.link with batch := none, service := service, unsolicited := some summary }) ∧
  t.port = (if standsDown then { s.port with starvation := none, starved := false } else s.port) ∧
  t.walker = (if s.sup.policy = .stretch then s.walker.request .extend (BitVec.allOnes 48) else s.walker) ∧
  t.notices = (if standsDown then held.post .standdownEntered .none (.standdown true) else held).notices ∧
  t = { s with sup := t.sup, link := t.link, port := t.port, walker := t.walker, notices := t.notices }

/-- What a counted fault leaves: the collection discarded and the challenge kept, SUPERVISION_FAULT with its cause and the
raised count, the settings of a new period in force; below the fault limit the raised count and a new period, and at the
limit HOLDOVER with cause FAULTS (R153, R154, R157; log 21 for the settings in force). -/
def FaultCounted (s t : State) (cause : FaultCause) : Prop :=
  let count := s.sup.faults + 1
  let u := (s.post .supervisionFault .none (.fault cause count)).withSettings (periodSettings s.settings)
  (count < s.settings.current.faultLimit →
    t = u.withSup
      { s.sup with
        collection := 0, faults := count, period := some (periodOf s.settings.current s.sup.mode),
        windowOn := windowOf s.settings.current s.sup.mode }) ∧
  (s.settings.current.faultLimit ≤ count → HoldoverEntered u t false)

/-- What a cue of a line leaves that requests action a of event i at the broadcast time as it stands: the transition with
cause cue where the event's state has an entry for it, and else CUE_IGNORED alone; a FINISH cue finds none in SUSPENDED
(R3, R11, R141). -/
def CueActs (s t : State) (line : Nat) (a : Action) (i : Nat) : Prop :=
  let entry := (s.event? i).bind fun x =>
    if a = .finish ∧ x.state = .suspended then none else entryAfter x a s.clock.seconds s.clock.ms
  match entry with
  | some (y, cut) => TransitionTo s t i y .cue cut
  | none => t = s.post .cueIgnored (.line line) (.requested a)

/-- The rows that the block brings about by itself and that are due: the command of the oldest held frame on a free link, the
link's own steps, second marks not yet taken, a running sweep, and every timer that has run out (R62, R67, R75, R97, R116,
R126, R132, R140, R144, R147, R149, R154, R159, R163, R167, R170 to R174). -/
def State.RowDue (s : State) (c : Instr) : Prop :=
  (s.link.free = true ∧ ∃ frame rest, s.link.holding = frame :: rest ∧ decodeFrame frame = some c) ∨
  let silence := (s.osc - s.link.lastByte) * baudOf s.settings.inForce.linkRate
  let idleLink := s.link.service = none ∧ s.link.tx = []
  match c with
  | .batchItem => ∃ kind tag items, s.link.service = some ⟨kind, tag, .items items⟩
  | .saveSettingsWriteComplete => ∃ snapshot, s.settings.writing = some (snapshot, 0)
  | .replySent => s.link.tx ≠ []
  | .resetTablesActs => idleLink ∧ s.link.resetDue = some .tables
  | .resetFullActs => idleLink ∧ s.link.resetDue = some .full
  | .batchIdleTimeout => ∃ b, s.link.batch = some b ∧ b.idle = 0
  | .huntArmed => s.link.framing = .hunt false ∧ 40 * 1000 ≤ silence
  | .byteGapExpiry => (∃ bytes, s.link.framing = .inFrame bytes) ∧ 100 * 1000 < silence
  | .markFiring => s.due.passes ≠ []
  | .windowStep => 0 < s.due.window
  | .announceIntervalCheck => 0 < s.due.announce
  | .sweepVisit => s.walker.running ≠ none
  | .rateInterval => s.pacing.rateIn = 0
  | .lossTimerExpiry => s.clock.loss = some 0
  | .starvationTimerExpiry => s.port.starvation = some 0
  | .settlingTimerExpiry => s.cues.settling = some 0
  | .periodTimerExpiry => ∃ p, s.sup.period = some p ∧ p.length ≤ p.elapsed
  | .configuringWindowExpiry => s.sup.configTimer = some 0
  | .quietTimerExpiry => s.sup.quiet = some 0
  | .debounceExpiry n now => now = s.osc ∧ ∃ reference history, (s.cues.line n).state = .armed reference (some 0) history
  | .coolingTimerExpiry n => (s.cues.line n).state = .cooling 0
  | _ => False

/-- The part one millisecond of its local oscillator later: every timer counts it, and the clock with its hold, which leaves
the rows that the return of the milliseconds and the end of the hold make due, in this order (R125, R126, R129; logs 1
and 2). -/
def State.millisecondLater (s : State) : State :=
  let down (timer : Option Nat) := timer.map fun left => left - 1
  let turns := ¬s.clock.ms < 999
  let ends := s.clock.hold = 1
  { s with
    osc := s.osc + 1
    clock :=
      { s.clock with
        ms := if turns then s.clock.ms else s.clock.ms + 1
        hold := if ends then 1 else s.clock.hold - 1
        loss := down s.clock.loss }
    sup :=
      { s.sup with
        period := s.sup.period.map fun p => { p with elapsed := p.elapsed + 1 }
        configTimer := down s.sup.configTimer
        quiet := down s.sup.quiet }
    settings := { s.settings with writing := s.settings.writing.map fun w => (w.1, w.2 - 1) }
    pacing := { s.pacing with rateIn := s.pacing.rateIn - 1 }
    port := { s.port with starvation := down s.port.starvation }
    cues :=
      { s.cues with
        lines := s.cues.lines.map fun l =>
          { l with
            state :=
              match l.state with
              | .armed reference debounce history => .armed reference (down debounce) history
              | .cooling left => .cooling (left - 1)
              | other => other }
        settling := down s.cues.settling }
    link := { s.link with batch := s.link.batch.map fun b => { b with idle := b.idle - 1 } }
    pending := (if turns then [.msRollover] else []) ++ (if ends then [.holdExpires] else []) }

/-! ### Layouts as chapter 11 tables them: for each field, in order, its width in bytes and its number -/

/-- The number that bytes spell, the first byte most significant (R182). -/
def bigEndian (bytes : List Byte) : Nat := bytes.foldl (fun n b => 256 * n + b.toNat) 0

/-- The bytes are those of the fields, one after another, and no more. -/
def LaysOut : List Byte → List (Nat × Nat) → Prop
  | bytes, [] => bytes = []
  | bytes, (width, value) :: rest =>
    width ≤ bytes.length ∧ bigEndian (bytes.take width) = value ∧ LaysOut (bytes.drop width) rest

/-- Every number fits its width. -/
def Fits (fields : List (Nat × Nat)) : Prop := ∀ x ∈ fields, x.2 < 256 ^ x.1

/-- A byte of flags, bit 0 first. -/
def flagsOf (flags : List Bool) : Nat × Nat := (1, flags.foldr (fun b n => b.toNat + 2 * n) 0)

/-- A field that is sent as all ones where it is absent (R185). -/
def presentOr (width : Nat) (x : Option Nat) : Nat × Nat := (width, x.getD (256 ^ width - 1))

/-- A bound in a reply (R186). -/
def boundFields : Bound → List (Nat × Nat)
  | .closedAt t => [(1, 0), (4, t)]
  | .openEnd => [(1, 1), (4, 0)]
  | .noBound => [(1, 2), (4, 0)]

/-- A notice record (R187). -/
def noticeFields (n : Notice) : List (Nat × Nat) :=
  [(1, n.kind.code), (1, n.level), (4, n.seconds), (2, n.ms)] ++
  (match n.subject with
    | .none => [(1, 0), (1, 0)]
    | .event i => [(1, 1), (1, i)]
    | .line i => [(1, 2), (1, i)]
    | .product i => [(1, 3), (1, i)]) ++
  match n.value with
    | .quantity k => [(4, k)]
    | .fault cause count => [(1, cause.code.toNat), (2, 0), (1, count)]
    | .holdover link => [(1, if link then 2 else 1), (3, 0)]
    | .standdown cue => [(1, if cue then 2 else 1), (3, 0)]
    | .resumed left => [(1, left.code.toNat), (3, 0)]
    | .eventState state cause => [(1, state.code.toNat), (1, cause.code.toNat), (2, 0)]
    | .requested action => [(1, action.code.toNat), (3, 0)]
    | .sweep kind changed => [(1, kind.code.toNat), (3, changed)]

/-- The fields of a reply behind KIND, TAG and status (R185, R186, R190). -/
def replyFields : ReplyFields → List (Nat × Nat)
  | .none => []
  | .settingWritten id v => [(1, id.toNat), (4, v)]
  | .settingRead id v w => [(1, id.toNat), (4, v), (4, w)]
  | .seconds s => [(4, s)]
  | .eventAction state bound => (1, state.code.toNat) :: boundFields bound
  | .batchOpened cancels n => [(1, if cancels then 2 else 1), (2, n)]
  | .cueContext l =>
    [(1, l.state.code.toNat), (1, l.episodes),
      (1, match l.lastCapture with
        | none => 0
        | some c => if c.intoActive then 1 else 2),
      presentOr 4 (l.lastCapture.map Capture.seconds), presentOr 2 (l.lastCapture.map Capture.ms)]
  | .keepalive challenge parts => [(1, challenge), (1, parts)]
  | .purchase partly region list => [flagsOf [partly], presentOr 1 region, presentOr 1 (list.map ListName.code)]
  | .cancelled copies empty => [(1, copies), (1, empty.toNat)]
  | .status r =>
    [(1, r.mode.code.toNat), (1, r.policy.code.toNat), (1, r.challenge), (1, r.faults), (4, r.seconds), (2, r.ms),
      flagsOf [r.isSet, r.locked], (1, r.linkErrors), (4, r.records), (4, r.promptLength), (4, r.ringLength),
      (4, r.revokingLength), (2, r.window), (2, r.capacity), (4, r.a16), (4, r.lapseTotal), (1, r.demand.toNat),
      (1, r.queued), (1, r.overflow.toNat), (1, (r.running.map fun k => k.code.toNat).getD 0),
      flagsOf [r.pendingVoid, r.pendingPurge, r.pendingExtend], (2, r.seq.toNat), (2, r.lastCount)]
  | .event i e bound mark products lines =>
    [(1, i), (1, e.state.code.toNat),
      flagsOf [e.actualKickoff.isSome, e.finish.isSome, e.suspension.isSome, e.lastAnnounced.isSome, mark.isSome],
      (4, e.saleOpen), (4, e.kickoff), (4, e.nominalEnd), (2, e.late), (2, e.grace), (2, e.allowance), (2, e.extension),
      presentOr 4 e.actualKickoff, presentOr 4 e.finish, presentOr 4 (e.suspension.map Suspension.seconds),
      presentOr 2 (e.suspension.map Suspension.ms), presentOr 1 (e.suspension.map fun p => p.before.code.toNat),
      (8, e.blackout.toNat), (1, e.cueBound.toNat), presentOr 4 e.lastAnnounced] ++ boundFields bound ++
    [presentOr 1 (mark.map fun m => m.kind.code.toNat), presentOr 4 (mark.map Mark.time), (6, products.toNat),
      (1, lines.length)] ++ lines.flatMap fun x => [(1, x.1), (1, x.2.code.toNat)]
  | .product i d records events =>
    [(1, i), (1, match d.kind with | .single => 1 | .pass => 2), (1, match d.life with | .alive => 1 | .dead => 2)] ++
    boundFields d.bound ++ [(4, records), (1, events.length)] ++
    events.flatMap fun x => [(1, x.1), (1, (x.2.1.map fun e => e.code.toNat).getD 0)] ++ boundFields x.2.2
  | .record r position =>
    let copies := match r.place with
      | .revoking n => some n
      | _ => none
    let due := match r.place with
      | .ring due => some due
      | _ => none
    [(4, r.key.block), (1, r.key.product), (8, r.map.toNat), (1, r.place.listName.code), (2, r.emissions),
      flagsOf [copies.isSome, r.stamp.isSome, due.isSome], presentOr 1 copies, presentOr 4 (r.stamp.map Stamp.horizon),
      presentOr 1 (r.stamp.map fun p => p.clamped.toNat), presentOr 4 due, (4, position)]
  | .decoder entries =>
    [(1, entries.length), (6, (setOf 48 fun p => entries.any fun x => x.1 == p && x.2.2.isSome).toNat)] ++
    entries.flatMap fun x => [(1, x.2.1.code * 64 + x.1), presentOr 4 x.2.2]
  | .notices taken remaining overflow =>
    [(1, taken.length), (1, remaining), (1, overflow.toNat)] ++ taken.flatMap noticeFields
  | .summary flag b =>
    [(1, flag.code.toNat), (1, b.tag.toNat), (1, if b.cancels then 2 else 1), (2, b.count), (2, b.taken), (2, b.accepted),
      (2, b.partly), (2, b.duplicates), (2, b.refused.badField), (2, b.refused.noProduct), (2, b.refused.notOnSale),
      (2, b.refused.closed), (2, b.refused.blackedOut), (2, b.refused.storeFull), (2, b.refused.notHeld), (2, b.surplus),
      (1, b.listed.length)] ++ b.listed.flatMap fun x => [(2, x.1), (1, x.2.code.toNat)]

/-- A carousel frame but for its CRC (R188, R189). -/
def carouselFields (f : CarouselFrame) : List (Nat × Nat) :=
  match f.body with
  | .filler => [(1, 0), (2, f.seq.toNat), (25, 0)]
  | .grant product block map horizon revokeCopy clamped copiesLeft =>
    [(1, 1), (2, f.seq.toNat), (1, product), (3, block), (8, map.toNat), (4, horizon), flagsOf [revokeCopy, clamped],
      (1, copiesLeft), (7, 0)]
  | .announce event state products blackout bound =>
    [(1, 2), (2, f.seq.toNat), (1, event), (1, state.code.toNat), (6, products.toNat), (8, blackout.toNat),
      (4, match bound with
        | .closedAt t => t
        | .openEnd => 0xFFFFFFFF
        | .noBound => 0), (5, 0)]
  | .time seconds ms locked => [(1, 3), (2, f.seq.toNat), (4, seconds), (2, ms), (1, locked.toNat), (18, 0)]

/-! ### Settings and pacing (R74, R80, R81, R191) -/

/-- Every setting holds a code or a value of its range. -/
def Settings.InRange (c : Settings) : Prop :=
  c.linkRate ≤ 3 ∧ 30 ≤ c.configWindow ∧ c.configWindow ≤ 600 ∧ 100 ≤ c.supervisionPeriod ∧
  c.supervisionPeriod ≤ 60000 ∧ c.windowMode ≤ 1 ∧ 10 ≤ c.maintenancePeriod ∧ c.maintenancePeriod ≤ 120 ∧
  (c.partsCount = 1 ∨ c.partsCount = 2 ∨ c.partsCount = 4) ∧ 1 ≤ c.faultLimit ∧ c.faultLimit ≤ 4 ∧
  60 ≤ c.quietTime ∧ c.quietTime ≤ 3600 ∧ 10 ≤ c.windowConfigured ∧ c.windowConfigured ≤ 600 ∧ 2 ≤ c.guard ∧
  c.guard ≤ c.windowConfigured / 4 ∧ 10 ≤ c.refreshShare ∧ c.refreshShare ≤ 90 ∧ 1 ≤ c.revocationCopies ∧
  c.revocationCopies ≤ 4 ∧ c.kickoffTolerance ≤ 1800 ∧ 1 ≤ c.announceInterval ∧ c.announceInterval ≤ 30 ∧
  c.defaultRegion ≤ 63 ∧ 7 ≤ c.linkThreshold ∧ c.linkThreshold ≤ 255 ∧ c.attnThreshold ≤ 6 ∧
  c.levels.length = 21 ∧ ∀ l ∈ c.levels, l ≤ 7

/-- The current settings, the stored copy and the snapshot of a write are in range. -/
def State.SettingsOk (s : State) : Prop :=
  s.settings.current.InRange ∧ (∀ c, s.settings.stored = some c → c.InRange) ∧
  (∀ c n, s.settings.writing = some (c, n) → c.InRange) ∧
  (s.settings.inForce.partsCount = 1 ∨ s.settings.inForce.partsCount = 2 ∨ s.settings.inForce.partsCount = 4)

/-- The bounds of the Pacing Unit, and the stretched condition as the relation that it reports. -/
def State.PacingOk (s : State) : Prop :=
  s.settings.current.windowConfigured ≤ s.pacing.window ∧ s.pacing.window ≤ 3600 ∧
  (s.pacing.stretched = true ↔ s.settings.current.windowConfigured < s.pacing.window) ∧
  s.pacing.slotCount ≤ 5000 ∧ s.pacing.lastCount ≤ 5000 ∧ s.pacing.a16 ≤ 80000 ∧ s.pacing.capacity ≤ 4500 ∧
  s.pacing.lapses ≤ 65535 ∧ s.pacing.lapseTotal ≤ 4294967295

/-! ### Supervision (R97, R148 to R155) -/

/-- The relations between the mode, the timers, the challenge, the collection and the fault count. -/
def State.SupervisionOk (s : State) : Prop :=
  s.sup.faults < s.settings.current.faultLimit ∧ 1 ≤ s.sup.challenge ∧ s.sup.challenge ≤ 254 ∧
  s.sup.collection < s.settings.inForce.partsCount ∧
  (s.sup.windowOn = true → s.sup.mode = .serving) ∧
  (s.sup.quiet.isSome = true → s.sup.mode = .holdover ∧ s.sup.policy = .quietStanddown) ∧
  (s.run = .running →
    (s.sup.period.isSome = true ↔ s.sup.mode = .serving ∨ s.sup.mode = .maintenance) ∧
    (s.sup.configTimer.isSome = true ↔ s.sup.mode = .configuring) ∧
    ((s.port.starvation.isSome = true ∨ s.port.starved = true) ↔
      s.sup.mode = .serving ∨ s.sup.mode = .maintenance ∨ s.sup.mode = .holdover))

/-! ### Notices (R179, R181) -/

/-- The queue holds at most 64 notices of levels 0..6, and ATTN is asserted while one of them is urgent. -/
def State.NoticesOk (s : State) : Prop :=
  s.notices.queue.length ≤ 64 ∧ (∀ n ∈ s.notices.queue, n.level ≤ 6) ∧
  ((∃ n ∈ s.notices.queue, n.level ≤ s.settings.current.attnThreshold) → s.notices.attn = true)

/-! ### Events and marks (R1, R5, R133, R134) -/

/-- The kind of mark that a state needs. -/
def EvState.markKind : EvState → Option MarkKind
  | .planned => some .saleOpen
  | .onSale => some .kickoff
  | .live | .overtime => some .finish
  | .ended => some .close
  | .suspended | .closed | .void => none

/-- The fields that are present only in some states are present there. -/
def EventEntry.FieldsOk (e : EventEntry) : Prop :=
  (e.state = .live ∨ e.state = .overtime ∨ e.state = .suspended → e.actualKickoff.isSome = true) ∧
  (e.state = .ended ∨ e.state = .closed → e.finish.isSome = true) ∧
  (e.state = .suspended ↔ e.suspension.isSome = true) ∧
  (∀ p, e.suspension = some p → p.before = .live ∨ p.before = .overtime)

/-- The Mark List is in order, and it holds for each event the kind of mark that the event's state needs, and no other. -/
def State.MarksOk (s : State) : Prop :=
  s.marks.Pairwise (fun a b => a.before b = true) ∧ (s.marks.map Mark.event).Nodup ∧
  (∀ m ∈ s.marks, ∃ e, s.event? m.event = some e ∧ e.state.markKind = some m.kind) ∧
  (∀ i e k, s.event? i = some e → e.state.markKind = some k → ∃ m ∈ s.marks, m.event = i) ∧
  (∀ i e, s.event? i = some e → e.FieldsOk)

/-! ### The Grant Store (R31, R32, R72) -/

/-- The keys of a service list are those of the records that stand in it, each once. -/
def ListHolds (g : GrantStore) (l : List Key) (inList : Place → Bool) : Prop :=
  l.Nodup ∧ ∀ k, k ∈ l ↔ ∃ r ∈ g.records, r.key = k ∧ inList r.place = true

/-- Records in ascending key order within the capacity, service lists that hold each record in its one place, a ring in
nondecreasing order of due time, and empty maps only in the revocation queue. -/
def GrantStore.Wf (g : GrantStore) : Prop :=
  g.records.Pairwise (fun a b => a.key.before b.key = true) ∧ g.records.length ≤ 65536 ∧
  ListHolds g g.prompt (fun p => p.listName == .prompt) ∧ ListHolds g g.ring (fun p => p.listName == .ring) ∧
  ListHolds g g.revoking (fun p => p.listName == .revoking) ∧
  g.ring.Pairwise (fun a b => (g.dueOf a).getD 0 ≤ (g.dueOf b).getD 0) ∧
  ∀ r ∈ g.records, r.map = 0 → r.place.listName = .revoking

/-- The store is well formed, and each product's record count is the number of its records (R18, R31). -/
def State.StoreOk (s : State) : Prop :=
  s.store.Wf ∧ s.products.length = 48 ∧ (∀ r ∈ s.store.records, r.key.product < 48) ∧
  ∀ p < 48, (s.products.getD p ⟨none, 0⟩).records = s.store.records.countP (fun r => r.key.product == p)

/-! ### What a decoder may show (R27) -/

/-- A decoder of this slot and region may show an event at second `now`: `grants` are the GRANT frames it last received, as
product, slot map and horizon, and the last three arguments are the event's last ANNOUNCE. Decoders are outside the part;
this predicate gives the contract of R27 in the part's terms (log 32). -/
def decoderMayShow (now slot region : Nat) (grants : List (Nat × BitVec 64 × Nat)) (products : BitVec 48)
    (blackout : BitVec 64) (bound : Bound) : Bool :=
  bound != .noBound && !blackout.getLsbD region &&
  grants.any fun g => products.getLsbD g.1 && g.2.1.getLsbD slot && now < g.2.2

end Sys2Proof.Machine
end

