-- ==== Sys2Proof/Certificates/Slice0/Obligations.lean ====
section
/-! DEFINITION. The statements for the provers. In those about a command of the Order Link, `s.ready` says that the part
runs and the link is free, `s.taken c` is the state with c taken (its frame out of the holding, the batch that it cuts
closed with its summary), and `t.answer c status fields` is t with the reply of c handed to the transmitter; every block
that a conclusion does not name is thereby the same as before. -/

open Sys2Proof Sys2Proof.Machine

/-! ### The queue, every command, reset -/

/-- A step takes the command at the front of the queue and is `exec` of it on the state with the queue's rest. -/
def Obligations.StepRunsTheFrontCommand : Prop :=
  ∀ (c : Instr) (rest : List Instr) (s : State), s.pending = c :: rest → step s = exec c (s.withPending rest)

/-- Every command completes in every state with a next state, and leaves the queue of waiting commands as it is. -/
def Obligations.EveryCommandCompletes : Prop :=
  ∀ (c : Instr) (s : State), ∃ t : State, exec c s = .next t ∧ t.pending = s.pending

/-- Power-on, the reset line, RESET FULL, RESET TABLES and configuring-window expiry empty every table, the Mark List, the
Grant Store and the walker, unbind every line, and leave the mode CONFIGURING (R1, R18, R24, R50, R112, R133, R137, R148). -/
def Obligations.EveryResetEmptiesTheTables : Prop :=
  ∀ (c : Instr) (s t : State),
    (s.run = .running ∧ (c = .resetTablesActs ∨ c = .resetFullActs)) ∨
      (s.run = .running ∧ c = .configuringWindowExpiry ∧ s.sup.configTimer.isSome = true) ∨
      (∃ p q, c = .powerOn p q) ∨ (s.run ≠ .unpowered ∧ ∃ p q, c = .resetLine p q) →
    exec c s = .next t →
    t.sup.mode = .configuring ∧ (∀ i, t.event? i = none) ∧ (∀ p, t.product? p = none) ∧
    (∀ x ∈ t.products, x.records = 0) ∧
    (∀ r ∈ t.regions, r = none) ∧ t.marks = [] ∧ t.store.records = [] ∧ t.store.prompt = [] ∧ t.store.ring = [] ∧
    t.store.revoking = [] ∧ t.store.highArmed = true ∧ t.walker = ⟨none, none, none, none⟩ ∧ (∀ l ∈ t.cues.lines, l = .unbound) ∧
    t.arbiter.announcements = [] ∧ t.arbiter.timePending = false ∧ t.arbiter.retired = 0 ∧
    t.pacing.window = t.settings.current.windowConfigured ∧ t.link.batch = none ∧ t.sup.faults = 0 ∧
    t.sup.collection = 0 ∧ t.sup.period = none ∧
    t.sup.configTimer = some (t.settings.current.configWindow * 1000)

/-! ### Settings (R165 to R168, R82, R154, R77, R173, R181) -/

/-- SET of a setting that only takes its value: a numeric value outside its range is clamped to the nearer limit, a code
that is not one of the setting's is refused, and an identifier that names no setting is refused (R165). -/
def Obligations.SetTakesOrClampsItsValue : Prop :=
  ∀ (h : Hdr) (id : BitVec 8) (value : BitVec 32) (s : State),
    s.ready → settingModes s.sup.mode → h.len = 7 → id.toNat ∉ [0x07, 0x09, 0x0B, 0x10, 0x11] →
    let c := Instr.set h id value
    let u := s.taken c
    let takes (v : Nat) (status : Status) :=
      (u.withSettings { s.settings with current := writeSetting s.settings.current id.toNat v }).answer c status
        (.settingWritten id v)
    match settingAdmits s.settings.current id.toNat with
    | none => exec c s = .next (u.answer c .badField .none)
    | some (.codes cs) =>
      exec c s = .next (if value.toNat ∈ cs then takes value.toNat .done else u.answer c .badField .none)
    | some (.range lo hi) =>
      lo ≤ hi →
      exec c s = .next
        (if value.toNat < lo then takes lo .doneClamped
        else if hi < value.toNat then takes hi .doneClamped
        else takes value.toNat .done)

/-- Writing one setting writes that setting and no other (R165). -/
def Obligations.WritingASettingWritesOnlyIt : Prop :=
  ∀ (c : Settings) (id other v : Nat), c.levels.length = 21 → (settingValue c id).isSome = true →
    settingValue (writeSetting c id v) other = if other = id then some v else settingValue c other

/-- SET of W_cfg: W_eff rises to it if it was below, the guard is clamped to floor(W_cfg / 4), the reply is DONE_CLAMPED if
either was clamped, and a change of the stretched condition posts its notice (R81, R82). -/
def Obligations.SetOfTheWindowActsOnPacing : Prop :=
  ∀ (h : Hdr) (value : BitVec 32) (s : State), s.ready → settingModes s.sup.mode → h.len = 7 →
    let c := Instr.set h 0x09 value
    let w := max 10 (min 600 value.toNat)
    let window := max s.pacing.window w
    let old := s.settings.current
    let clamped := decide (w ≠ value.toNat ∨ w / 4 < old.guard)
    let t := ((s.taken c).withSettings
      { s.settings with current := { old with windowConfigured := w, guard := min old.guard (w / 4) } }).withPacing
      { s.pacing with window := window, stretched := decide (w < window) }
    let u :=
      if w < window ∧ s.pacing.stretched = false then t.post .windowStretched .none (.quantity window)
      else if ¬w < window ∧ s.pacing.stretched = true then t.post .windowRelaxed .none (.quantity w)
      else t
    exec c s = .next (u.answer c (if clamped then .doneClamped else .done) (.settingWritten 0x09 w))

/-- SET of the fault limit clears the fault count; of the refresh share recomputes C; of the link error threshold clamps
the link error count; of the ATTN threshold asserts ATTN if the queue holds an urgent notice under it (R77, R154, R173,
R181). -/
def Obligations.SetOfTheOtherActingSettings : Prop :=
  ∀ (h : Hdr) (value : BitVec 32) (s : State), s.ready → settingModes s.sup.mode → h.len = 7 →
    let u (id : BitVec 8) := s.taken (.set h id value)
    let old := s.settings.current
    let within (lo hi : Nat) := max lo (min hi value.toNat)
    let status (lo hi : Nat) : Status := if within lo hi = value.toNat then .done else .doneClamped
    exec (.set h 0x07 value) s = .next
      ((((u 0x07).withSettings { s.settings with current := { old with faultLimit := within 1 4 } }).withSup
        { s.sup with faults := 0 }).answer (.set h 0x07 value) (status 1 4) (.settingWritten 0x07 (within 1 4))) ∧
    exec (.set h 0x0B value) s = .next
      ((((u 0x0B).withSettings { s.settings with current := { old with refreshShare := within 10 90 } }).withPacing
        { s.pacing with capacity := s.pacing.a16 * within 10 90 / 1600 }).answer (.set h 0x0B value) (status 10 90)
        (.settingWritten 0x0B (within 10 90))) ∧
    exec (.set h 0x10 value) s = .next
      ((((u 0x10).withSettings { s.settings with current := { old with linkThreshold := within 7 255 } }).withLink
        { (u 0x10).link with errors := min s.link.errors (within 7 255) }).answer (.set h 0x10 value) (status 7 255)
        (.settingWritten 0x10 (within 7 255))) ∧
    exec (.set h 0x11 value) s = .next
      ((((u 0x11).withSettings { s.settings with current := { old with attnThreshold := within 0 6 } }).withNotices
        { s.notices with
          attn := s.notices.attn || s.notices.queue.any fun n => n.level ≤ within 0 6 }).answer (.set h 0x11 value)
        (status 0 6) (.settingWritten 0x11 (within 0 6)))

/-- SAVE SETTINGS takes a snapshot of the current settings and stays in service without a reply; when the write completes
the stored copy is that snapshot and DONE is replied (R167). -/
def Obligations.SaveSettingsWritesTheSnapshot : Prop :=
  (∀ (h : Hdr) (s : State), s.ready → settingModes s.sup.mode → h.len = 2 →
    let c := Instr.saveSettings h
    let u := s.taken c
    ∃ left, left ≤ 40 ∧
      exec c s = .next
        ((u.withSettings { s.settings with writing := some (s.settings.current, left) }).withLink
          { u.link with service := some ⟨0x03, h.tag, .writing⟩ })) ∧
  (∀ (s : State) (snapshot : Settings) (left : Nat) (kind tag : BitVec 8), s.run = .running →
    s.settings.writing = some (snapshot, left) → s.link.service = some ⟨kind, tag, .writing⟩ →
    exec .saveSettingsWriteComplete s = .next
      ((s.withSettings { s.settings with stored := some snapshot, writing := none }).withLink
        { s.link with
          service := some ⟨kind, tag, .replying⟩,
          tx := s.link.tx ++ [⟨⟨kind + 0x80, tag, .done, .none⟩, true⟩] }))

/-- The stored copy changes only by the completion of a write, or by a loss of supply or an assertion of RESET_N while one
is under way: with no write under way no command changes it (R164, R167). -/
def Obligations.StoredCopyChangesOnlyByAWrite : Prop :=
  ∀ (c : Instr) (s t : State), s.settings.writing = none → exec c s = .next t → t.settings.stored = s.settings.stored

/-! ### The broadcast clock (R125 to R132) -/

/-- CLOCK SET, CLOCK ADVANCE and CLOCK HOLD: their effects, and the fields and states they are refused on; the end of a
hold; and the return of the milliseconds to 0, at which the seconds rise by one with a second mark unless a hold runs or
they stand at 4,294,967,295 (R125, R127 to R129). That the return acts whatever the milliseconds show, and the end of a hold
whatever is left of it, is log 3. With an empty queue a row that is due, by a timer run out, a second mark outstanding, a sweep,
the link's own steps or the oldest held frame, joins the queue (R126, R174), and a frame taken leaves the holding. With none due
a millisecond passes (log 1): every timer counts it, the milliseconds rise and the hold falls by one; where they pass 999 and the
hold reaches 0 together, the return comes first and so advances no second. That these two rows go ahead of the others, and which
of several is queued, is log 2. -/
def Obligations.ClockIsWrittenHeldAndCounted : Prop :=
  (∀ (h : Hdr) (seconds : BitVec 32) (ms : BitVec 16) (s : State), s.ready → s.sup.mode = .configuring → h.len = 8 →
    let c := Instr.clockSet h seconds ms
    let u := s.taken c
    exec c s = .next
      (if ms.toNat ≤ 999 then
        (u.withClock { s.clock with seconds := seconds.toNat, ms := ms.toNat, isSet := true }).answer c .done .none
      else u.answer c .badField .none)) ∧
  (∀ (h : Hdr) (n : BitVec 8) (s : State), s.ready → s.sup.mode = .serving ∨ s.sup.mode = .maintenance → h.len = 3 →
    let c := Instr.clockAdvance h n
    let u := s.taken c
    let t := s.clock.seconds + n.toNat
    exec c s = .next
      (if n.toNat = 0 ∨ 60 < n.toNat then u.answer c .badField .none
      else if s.clock.hold ≠ 0 then u.answer c .wrongState .none
      else if 4294967295 < t then u.answer c .badField .none
      else (marked u { s.clock with seconds := t }).answer c .done (.seconds t))) ∧
  (∀ (h : Hdr) (n : BitVec 8) (s : State), s.ready → s.sup.mode = .serving ∨ s.sup.mode = .maintenance → h.len = 3 →
    let c := Instr.clockHold h n
    let u := s.taken c
    exec c s = .next
      (if n.toNat = 0 ∨ 60 < n.toNat then u.answer c .badField .none
      else if s.clock.hold ≠ 0 then u.answer c .wrongState .none
      else (u.withClock { s.clock with hold := n.toNat * 1000 }).answer c .done .none)) ∧
  (∀ s : State, s.run = .running → exec .holdExpires s = .next (s.withClock { s.clock with hold := 0 })) ∧
  (∀ s : State, s.run = .running →
    exec .msRollover s = .next
      (if s.clock.hold = 0 ∧ s.clock.seconds < 4294967295 then
        marked s { s.clock with ms := 0, seconds := s.clock.seconds + 1 }
      else s.withClock { s.clock with ms := 0 })) ∧
  (∀ s : State, s.run = .running → s.pending = [] → (∀ c, ¬s.RowDue c) →
    let t := s.millisecondLater
    step s = .next t ∧
    (s.clock.hold = 1 → ¬s.clock.ms < 999 →
      ∃ u v : State, step t = .next u ∧ step u = .next v ∧
        v.clock = { t.clock with ms := 0, hold := 0 } ∧ v.due = s.due ∧ v.pending = [])) ∧
  (∀ (s : State) (c : Instr), s.run = .running → s.pending = [] → s.RowDue c →
    ∃ (d : Instr) (t : State), s.RowDue d ∧ step s = .next t ∧ t = { s with pending := [d], choices := t.choices }) ∧
  (∀ (s : State) (frame : List Byte) (rest : List (List Byte)) (c : Instr), s.link.holding = frame :: rest →
    decodeFrame frame = some c → (s.taken c).link.holding = rest)

/-- A pulse in LOCKED (on-phase, ignored off-phase, the third off-phase in a row, during a hold); a pulse in LOST, which
restores the reference and re-phases the clock unless a hold runs, with REFERENCE_RESTORED if a loss was reported; and the
loss timer's expiry. Where a pulse would advance seconds that stand at 4,294,967,295, it sets the milliseconds alone, with no
second mark (R125, R129 to R132). -/
def Obligations.PulsesAndLossFollowTheReference : Prop :=
  (∀ s : State, s.run = .running → s.clock.locked = true → s.clock.ms ≤ 999 →
    let x := { s.clock with loss := some 3000 }
    let rephased := { x with offPhase := 0, ms := 0 }
    let advanced :=
      if s.clock.seconds < 4294967295 then marked s { rephased with seconds := s.clock.seconds + 1 }
      else s.withClock rephased
    exec .pulse s = .next
      (if s.clock.hold ≠ 0 then s.withClock x
      else if s.clock.ms ≤ 99 then s.withClock rephased
      else if 900 ≤ s.clock.ms then advanced
      else if s.clock.offPhase < 2 then s.withClock { x with offPhase := s.clock.offPhase + 1 }
      else if 500 ≤ s.clock.ms then advanced
      else s.withClock rephased)) ∧
  (∀ s : State, s.run = .running → s.clock.locked = false →
    let x := { s.clock with locked := true, offPhase := 0, loss := some 3000, lossReported := false }
    let t :=
      if s.clock.hold ≠ 0 then s.withClock x
      else if 500 ≤ s.clock.ms ∧ s.clock.seconds < 4294967295 then
        marked s { x with ms := 0, seconds := s.clock.seconds + 1 }
      else s.withClock { x with ms := 0 }
    exec .pulse s = .next
      (if s.clock.lossReported then t.post .referenceRestored .none (.quantity s.clock.ms) else t)) ∧
  (∀ (s : State) (left : Nat), s.run = .running → s.clock.loss = some left →
    exec .lossTimerExpiry s = .next
      ((s.withClock { s.clock with locked := false, offPhase := 0, loss := none, lossReported := true }).post
        .referenceLost .none (.quantity 0)))

/-- Outside CONFIGURING the seconds count never goes backward (R125): not by any command, and not by the block's own doing
between commands. -/
def Obligations.SecondsNeverGoBackward : Prop :=
  ∀ s t : State, s.sup.mode ≠ .configuring → t.sup.mode ≠ .configuring → step s = .next t →
    s.clock.seconds ≤ t.clock.seconds

/-! ### Regions, events, products (R14 to R26) -/

/-- REGION RULE sets and clears one rule; the region of a block is that of the first set rule, in ascending index, whose
care bits it equals, else the default region (R24, R25). -/
def Obligations.RegionRulesMapBlocks : Prop :=
  (∀ (h : Hdr) (form idx : BitVec 8) (pattern mask : BitVec 24) (region : BitVec 8) (s : State), s.ready →
    s.sup.mode = .configuring ∨ s.sup.mode = .maintenance → h.len = 11 →
    let c := Instr.regionRuleSet h form idx pattern mask region
    let u := s.taken c
    exec c s = .next
      (if form = 1 ∧ idx.toNat < 32 ∧ pattern.toNat < 2 ^ 20 ∧ mask.toNat < 2 ^ 20 ∧ region.toNat < 64 then
        (u.withRegions
          (s.regions.set idx.toNat (some ⟨pattern.setWidth 20, mask.setWidth 20, region.toNat⟩))).answer c .done .none
      else u.answer c .badField .none)) ∧
  (∀ (h : Hdr) (idx : BitVec 8) (s : State), s.ready → s.sup.mode = .configuring ∨ s.sup.mode = .maintenance →
    h.len = 4 →
    let c := Instr.regionRuleClear h 2 idx
    let u := s.taken c
    exec c s = .next
      (if idx.toNat < 32 then (u.withRegions (s.regions.set idx.toNat none)).answer c .done .none
      else u.answer c .badField .none)) ∧
  (∀ (s : State) (block i : Nat) (rule : RegionRule),
    let matching (r : RegionRule) := ∀ k < 20, r.mask.getLsbD k = true → block.testBit k = r.pattern.getLsbD k
    s.regions[i]? = some (some rule) → matching rule →
    (∀ j r, j < i → s.regions[j]? = some (some r) → ¬matching r) → s.regionOf block = rule.region) ∧
  (∀ (s : State) (block : Nat),
    (∀ r : RegionRule, some r ∈ s.regions → ∃ k < 20, r.mask.getLsbD k = true ∧ block.testBit k ≠ r.pattern.getLsbD k) →
    s.regionOf block = s.settings.current.defaultRegion)

/-- EVENT over an EMPTY entry, or in CONFIGURING over a PLANNED one, makes the entry PLANNED with the given fields, X at 0,
with the effects of a transition, its sale-open mark among them; A = 0 selects 1,800 s. A field out of range is refused
BAD_FIELD, and any other entry WRONG_STATE (R4, R15). -/
def Obligations.EventDefinesAnEntry : Prop :=
  ∀ (h : Hdr) (idx : BitVec 8) (so k e : BitVec 32) (late grace allow : BitVec 16) (s : State), s.ready →
    s.due.inPass = false → s.events.length = 32 → s.sup.mode = .configuring ∨ s.sup.mode = .maintenance → h.len = 21 →
    let fields := idx.toNat < 32 ∧ so.toNat ≤ k.toNat ∧ k.toNat < e.toNat ∧ e.toNat ≤ 4294956495 ∧ late.toNat ≤ 3600 ∧
      grace.toNat ≤ 3600 ∧ (allow.toNat = 0 ∨ (60 ≤ allow.toNat ∧ allow.toNat ≤ 3600))
    let free := s.event? idx.toNat = none ∨
      (s.sup.mode = .configuring ∧ ∃ x, s.event? idx.toNat = some x ∧ x.state = .planned)
    let c := Instr.event h idx so k e late grace allow
    let entry : EventEntry :=
      { state := .planned, saleOpen := so.toNat, kickoff := k.toNat, nominalEnd := e.toNat, late := late.toNat,
        grace := grace.toNat, allowance := if allow.toNat = 0 then 1800 else allow.toNat, extension := 0,
        actualKickoff := none, finish := none, suspension := none, blackout := 0,
        cueBound := s.cues.kickoffBound idx.toNat, lastAnnounced := none }
    (fields → free →
      ∃ t : State, exec c s = .next (t.answer c .done .none) ∧
        TransitionTo (s.taken c) t idx.toNat entry .command none) ∧
    (¬fields → exec c s = .next ((s.taken c).answer c .badField .none)) ∧
    (fields → ¬free → exec c s = .next ((s.taken c).answer c .wrongState .none))

/-- EVENT TIMES replaces S_o, K and E of a PLANNED or ON_SALE event with its mark and reports the event to the Product
Table; BLACKOUT replaces the blackout set of an event that is not CLOSED or VOID; both request an announcement, at the tail of
the list unless the event is listed or retired, and neither changes another event. A field out of range is
refused BAD_FIELD, an EMPTY entry NO_EVENT, any other state WRONG_STATE (R5, R16, R26, R106). -/
def Obligations.EventTimesAndBlackoutChangeAnEntry : Prop :=
  (∀ (h : Hdr) (idx : BitVec 8) (so k e : BitVec 32) (s : State), s.ready → s.due.inPass = false →
    s.sup.mode = .configuring ∨ s.sup.mode = .maintenance → h.len = 15 →
    let fields := idx.toNat < 32 ∧ so.toNat ≤ k.toNat ∧ k.toNat < e.toNat ∧ e.toNat ≤ 4294956495
    let c := Instr.eventTimes h idx so k e
    let u := s.taken c
    (¬fields → exec c s = .next (u.answer c .badField .none)) ∧
    (fields → s.event? idx.toNat = none → exec c s = .next (u.answer c .noEvent .none)) ∧
    ∀ x, fields → s.event? idx.toNat = some x →
      let y := { x with saleOpen := so.toNat, kickoff := k.toNat, nominalEnd := e.toNat }
      (x.state = .planned ∨ x.state = .onSale →
        ∃ t : State, exec c s = .next (t.answer c .done .none) ∧ t.event? idx.toNat = some y ∧
          t.events = s.events.set idx.toNat (some y) ∧
          t.marks.find? (fun m => m.event == idx.toNat) = y.markFor idx.toNat s.settings.current.kickoffTolerance ∧
          t.marks.filter (fun m => m.event != idx.toNat) = s.marks.filter (fun m => m.event != idx.toNat) ∧
          (s.marks.Pairwise (fun a b => a.before b = true) → t.marks.Pairwise (fun a b => a.before b = true)) ∧
          (let r := (s.withEvents t.events).reportEvent idx.toNat
           t.products = r.products ∧ t.walker = r.walker ∧ t.choices = r.choices) ∧
          t.arbiter = s.arbiter.asked idx.toNat ∧
          t = { u with
            events := t.events, marks := t.marks, products := t.products, walker := t.walker, choices := t.choices,
            arbiter := t.arbiter }) ∧
      (¬(x.state = .planned ∨ x.state = .onSale) → exec c s = .next (u.answer c .wrongState .none))) ∧
  (∀ (h : Hdr) (idx : BitVec 8) (regions : BitVec 64) (s : State), s.ready → s.due.inPass = false →
    s.sup.mode = .configuring ∨ s.sup.mode = .serving ∨ s.sup.mode = .maintenance → h.len = 11 →
    let c := Instr.blackout h idx regions
    let u := s.taken c
    (32 ≤ idx.toNat → exec c s = .next (u.answer c .badField .none)) ∧
    (idx.toNat < 32 → s.event? idx.toNat = none → exec c s = .next (u.answer c .noEvent .none)) ∧
    ∀ x, idx.toNat < 32 → s.event? idx.toNat = some x →
      (¬(x.state = .closed ∨ x.state = .void) →
        exec c s = .next
          (((u.withEvents (s.events.set idx.toNat (some { x with blackout := regions }))).withArbiter
            (s.arbiter.asked idx.toNat)).answer c .done .none)) ∧
      (x.state = .closed ∨ x.state = .void → exec c s = .next (u.answer c .wrongState .none)))

/-- PRODUCT, define form: SINGLE over one event, PASS over 2 to 16, none twice, all neither EMPTY nor over; the entry takes
kind, list and bound, is ALIVE and keeps its record count, and its old and new events are announced. A field out of range is
refused BAD_FIELD, then an EMPTY event NO_EVENT, then one that is over WRONG_STATE, then a defined index in MAINTENANCE
IN_USE (R19, R21, R22). That IN_USE is checked last, behind WRONG_STATE, and that the old events are announced before the new
ones, is the model's choice (log 15). -/
def Obligations.ProductDefineMakesAnAliveProduct : Prop :=
  ∀ (h : Hdr) (form idx kind : BitVec 8) (events : List (BitVec 8)) (s : State), s.ready →
    s.sup.mode = .configuring ∨ s.sup.mode = .maintenance → h.len = 5 + events.length → 1 ≤ events.length →
    events.length ≤ 16 →
    let fields := form = 1 ∧ idx.toNat < 48 ∧
      ((kind = 1 ∧ events.length = 1) ∨ (kind = 2 ∧ 2 ≤ events.length)) ∧ events.Nodup ∧ ∀ i ∈ events, i.toNat < 32
    let missing := ∃ i ∈ events, s.event? i.toNat = none
    let ended := ∃ i ∈ events, ∃ e, s.event? i.toNat = some e ∧ (e.state = .closed ∨ e.state = .void)
    let c := Instr.productDefine h form idx kind events
    let u := s.taken c
    let es := events.map BitVec.toNat
    let made : ProductDef := ⟨if kind = 1 then .single else .pass, es, productBound s es, .alive⟩
    let old := (s.products.getD idx.toNat ⟨none, 0⟩)
    (¬fields → exec c s = .next (u.answer c .badField .none)) ∧
    (fields → missing → exec c s = .next (u.answer c .noEvent .none)) ∧
    (fields → ¬missing → ended → exec c s = .next (u.answer c .wrongState .none)) ∧
    (fields → ¬missing → ¬ended → s.sup.mode = .maintenance → old.defn.isSome = true →
      exec c s = .next (u.answer c .inUse .none)) ∧
    (fields → ¬missing → ¬ended → ¬(s.sup.mode = .maintenance ∧ old.defn.isSome = true) →
      exec c s = .next
        (((u.withProducts (s.products.modify idx.toNat fun x => { x with defn := some made })).announceAll
          (s.eventsOf idx.toNat ++ es)).answer c .done .none))

/-- PRODUCT, drop form: a defined product without records becomes undefined, leaves the set of every job, a pending job
with no other product being discarded, and its events are announced; with records it is refused IN_USE, an undefined index
NO_PRODUCT, one above 47 BAD_FIELD (R20, R21, R120). That the announcements join in the order of the product's event list is
the model's choice (log 15). -/
def Obligations.ProductDropRemovesAnEmptyProduct : Prop :=
  ∀ (h : Hdr) (idx : BitVec 8) (s : State), s.ready →
    s.sup.mode = .configuring ∨ s.sup.mode = .maintenance → h.len = 4 →
    let c := Instr.productDrop h 2 idx
    let u := s.taken c
    let without (v : BitVec 48) := v &&& ~~~BitVec.twoPow 48 idx.toNat
    (48 ≤ idx.toNat → exec c s = .next (u.answer c .badField .none)) ∧
    (idx.toNat < 48 → s.product? idx.toNat = none → exec c s = .next (u.answer c .noProduct .none)) ∧
    (idx.toNat < 48 → (s.product? idx.toNat).isSome = true → 0 < (s.products.getD idx.toNat ⟨none, 0⟩).records →
      exec c s = .next (u.answer c .inUse .none)) ∧
    (∀ d, idx.toNat < 48 → s.product? idx.toNat = some d → (s.products.getD idx.toNat ⟨none, 0⟩).records = 0 →
      ∃ t : State, exec c s = .next ((t.announceAll d.events).answer c .done .none) ∧
        t.products = s.products.modify idx.toNat (fun x => { x with defn := none }) ∧
        t.walker.running = s.walker.running.map (fun j => { j with products := without j.products }) ∧
        (∀ k, t.walker.pendingOf k = ((s.walker.pendingOf k).map without).filter (fun v => v != 0)) ∧
        t = (u.withProducts t.products).withWalker t.walker)

/-! ### Event actions (R3 to R13) -/

/-- EVENT ACTION carries out each of its seven actions at the time it is taken, with the effects of a transition, and
replies DONE with the new state and bound; where the entry's state has no entry for the action it is refused WRONG_STATE,
an EMPTY entry gives NO_EVENT, and an index above 31 or a code that names no action BAD_FIELD. That EXTENSION_CAPPED goes
before EVENT_STATE is the model's choice (log 14). The report of an event recomputes bound and life of every product that
admits it, and outside CONFIGURING requests at most one VOID, PURGE and EXTEND job over the products concerned, each of which
starts on an idle walker or joins the pending job of its kind; the order of the three requests is log 7 (R3, R4, R6 to R11,
R13, R14, R17, R22, R23, R113, R114). -/
def Obligations.EventActionsTransitionTheEvent : Prop :=
  (∀ (h : Hdr) (idx action : BitVec 8) (s : State), s.ready → s.sup.mode = .serving ∨ s.sup.mode = .maintenance →
    h.len = 4 → action ≠ 1 →
    let c := Instr.eventActionOpenSale h idx action
    exec c s = .next ((s.taken c).answer c .badField .none)) ∧
  (∀ (h : Hdr) (idx : BitVec 8) (a : Action) (c : Instr) (s : State), actionCommand h idx a = some c → s.ready →
    s.sup.mode = .serving ∨ s.sup.mode = .maintenance → h.len = 4 →
    let u := s.taken c
    (32 ≤ idx.toNat → exec c s = .next (u.answer c .badField .none)) ∧
    (idx.toNat < 32 → s.due.inPass = false →
    match s.event? idx.toNat with
    | none => exec c s = .next (u.answer c .noEvent .none)
    | some x =>
      match entryAfter x a s.clock.seconds s.clock.ms with
      | none => exec c s = .next (u.answer c .wrongState .none)
      | some (y, cut) =>
        ∃ t : State, exec c s = .next (t.answer c .done (.eventAction y.state y.bound)) ∧
          TransitionTo u t idx.toNat y .command cut)) ∧
  (∀ (s : State) (events : List Nat),
    let isOpen := ∃ i ∈ events, s.eventBound i = .openEnd
    (isOpen → productBound s events = .openEnd) ∧
    (∀ i b, ¬isOpen → i ∈ events → s.eventBound i = .closedAt b →
      (∀ j ∈ events, ∀ b', s.eventBound j = .closedAt b' → b' ≤ b) → productBound s events = .closedAt b) ∧
    ((∀ i ∈ events, s.eventBound i = .noBound) → productBound s events = .noBound)) ∧
  (∀ (s : State) (i : Nat),
    let t := s.reportEvent i
    let void (j : Nat) := ∃ e, s.event? j = some e ∧ e.state = .void
    let finished (j : Nat) := void j ∨ ∃ e, s.event? j = some e ∧ e.state = .closed
    let request (w : Walker) (k : JobKind) (v : BitVec 48) : Walker :=
      if v = 0 then w
      else
        match w.running, k with
        | none, _ => { w with running := some ⟨k, v, none, 0⟩ }
        | some _, .void => { w with pendingVoid := some (w.pendingVoid.getD 0 ||| v) }
        | some _, .purge => { w with pendingPurge := some (w.pendingPurge.getD 0 ||| v) }
        | some _, .extend => { w with pendingExtend := some (w.pendingExtend.getD 0 ||| v) }
    t = { s with products := t.products, walker := t.walker, choices := t.choices } ∧
    t.products.length = s.products.length ∧
    (∀ p, (t.products.getD p ⟨none, 0⟩).records = (s.products.getD p ⟨none, 0⟩).records) ∧
    (∀ p, s.product? p = none → t.product? p = none) ∧
    (∀ p d, s.product? p = some d → i ∉ d.events → t.product? p = some d) ∧
    (∀ p d, s.product? p = some d → i ∈ d.events →
      ∃ life, t.product? p = some { d with bound := productBound s d.events, life := life } ∧
        ((∀ j ∈ d.events, finished j) → life = .dead) ∧ (¬(∀ j ∈ d.events, finished j) → life = d.life)) ∧
    (s.sup.mode = .configuring → t.walker = s.walker ∧ t.choices = s.choices) ∧
    (s.sup.mode ≠ .configuring →
      ∃ voids purges grown : BitVec 48,
        (∀ p < 48,
          let concerned (f : ProductDef → Prop) :=
            ∃ d, s.product? p = some d ∧ i ∈ d.events ∧ d.life = .alive ∧ f d
          (voids.getLsbD p = true ↔ concerned fun d => ∀ j ∈ d.events, void j) ∧
          (purges.getLsbD p = true ↔ concerned fun d => (∀ j ∈ d.events, finished j) ∧ ∃ j ∈ d.events, ¬void j) ∧
          (grown.getLsbD p = true ↔ concerned fun d => (∃ j ∈ d.events, ¬finished j) ∧
            ∃ a, d.bound = .closedAt a ∧
              (productBound s d.events = .openEnd ∨ ∃ b, productBound s d.events = .closedAt b ∧ a < b))) ∧
        (t.walker = request (request (request s.walker .void voids) .purge purges) .extend grown ∨
          t.walker = request (request (request s.walker .purge purges) .void voids) .extend grown)))

/-- An event that is CLOSED or VOID keeps its entry's place and state through every command but a reset: no command, cue, mark
or definition takes it out of them, and none empties its entry (R12, R13, R15, R98). The premise on `resetDue` leaves out a
RESET that was taken before and acts first. -/
def Obligations.ClosedAndVoidAreFinal : Prop :=
  ∀ (c : Instr) (s t : State) (i : Nat) (x : EventEntry), s.link.resetDue = none → s.event? i = some x →
    x.state = .closed ∨ x.state = .void → exec c s = .next t →
    c ≠ .resetTablesActs → c ≠ .resetFullActs → c ≠ .configuringWindowExpiry → (∀ p q, c ≠ .powerOn p q) →
    (∀ p q, c ≠ .resetLine p q) → ∃ y, t.event? i = some y ∧ y.state = x.state

/-! ### Cue lines (R137 to R147) -/

/-- CUE BIND makes a line ARMED on its pin level with the binding, whatever its state; CUE CLEAR UNBIND makes a bound line
UNBOUND; RELEASE clears its chatter record; all reply with the context before. A field out of range is refused BAD_FIELD, line 0
under CUE_STANDDOWN IN_USE, and CUE CLEAR of an UNBOUND line WRONG_STATE. Where BIND or UNBIND changes a binding with action
KICKOFF, the kickoff cue bound flags of its event and of the new one follow the bindings, and an ON_SALE event whose flag
changes has its KICKOFF mark moved between K and K + kickoff tolerance (R1, R5, R138, R139, R146). -/
def Obligations.CueCommandsSetTheContext : Prop :=
  (∀ (h : Hdr) (line ev action level : BitVec 8) (debounce : BitVec 16) (s : State), s.ready →
    settingModes s.sup.mode → h.len = 8 →
    let fields := line.toNat < 8 ∧ ev.toNat < 32 ∧ (cueActionOf action).isSome = true ∧ level.toNat ≤ 1 ∧
      10 ≤ debounce.toNat ∧ debounce.toNat ≤ 500
    let c := Instr.cueBind h line ev action level debounce
    let u := s.taken c
    let n := line.toNat
    let old := s.cues.line n
    (¬fields → exec c s = .next (u.answer c .badField .none)) ∧
    ∀ a, fields → cueActionOf action = some a → s.due.inPass = false →
    let new : CueLine :=
      ⟨.armed (s.cues.pins.getLsbD n) none [], some ⟨ev.toNat, a, level.toNat == 1, debounce.toNat⟩, 0, none⟩
    exec c s = .next
      (if s.sup.policy = .cueStanddown ∧ n = 0 then u.answer c .inUse .none
      else ((u.setLine n new).refreshFlags [old.kickoffEvent, new.kickoffEvent]).answer c .done (.cueContext old))) ∧
  (∀ (h : Hdr) (line : BitVec 8) (s : State), s.ready → s.due.inPass = false → settingModes s.sup.mode → h.len = 4 →
    let n := line.toNat
    let old := s.cues.line n
    let refusal : Option Status :=
      if 8 ≤ n then some .badField
      else if s.sup.policy = .cueStanddown ∧ n = 0 then some .inUse
      else if old.state = .unbound then some .wrongState
      else none
    let unbind := Instr.cueClearUnbind h line 1
    let release := Instr.cueClearRelease h line 2
    let released : CueLine :=
      { old with
        state := if old.state = .lockedOut then .armed (s.cues.pins.getLsbD n) none [] else old.state, episodes := 0 }
    exec unbind s = .next
      (match refusal with
      | some status => (s.taken unbind).answer unbind status .none
      | none =>
        (((s.taken unbind).setLine n .unbound).refreshFlags [old.kickoffEvent]).answer unbind .done (.cueContext old)) ∧
    exec release s = .next
      (match refusal with
      | some status => (s.taken release).answer release status .none
      | none => ((s.taken release).setLine n released).answer release .done (.cueContext old))) ∧
  (∀ (s : State) (l : List (Option Nat)),
    let t := s.refreshFlags l
    let bound (i : Nat) := ∃ x ∈ s.cues.lines, ∃ b, x.binding = some b ∧ b.event = i ∧ b.action = .kickoff
    t = { s with events := t.events, marks := t.marks } ∧ t.events.length = s.events.length ∧
    (∀ i, some i ∉ l → t.event? i = s.event? i) ∧ (∀ i, s.event? i = none → t.event? i = none) ∧
    (∀ i e, some i ∈ l → s.event? i = some e →
      ∃ flag : Bool, (flag = true ↔ bound i) ∧ t.event? i = some { e with cueBound := flag } ∧
        (e.state = .onSale → flag ≠ e.cueBound →
          t.marks.filter (fun m => m.event == i) =
            [⟨i, .kickoff, if flag then e.kickoff + s.settings.current.kickoffTolerance else e.kickoff⟩]) ∧
        (e.state ≠ .onSale ∨ flag = e.cueBound →
          t.marks.filter (fun m => m.event == i) = s.marks.filter (fun m => m.event == i))) ∧
    (∀ i, some i ∉ l → t.marks.filter (fun m => m.event == i) = s.marks.filter (fun m => m.event == i)) ∧
    (s.marks.Pairwise (fun a b => a.before b = true) → t.marks.Pairwise (fun a b => a.before b = true)))

/-- A pin that changes away from an ARMED line's reference starts the debounce timer afresh and one that returns stops it;
an UNBOUND, COOLING or LOCKED_OUT line ignores its pin (R140, R144, R145). -/
def Obligations.PinChangesRunTheDebounceTimer : Prop :=
  ∀ (n : Nat) (level : Bool) (s : State), s.run = .running → n < 8 → s.reserved n = false → s.cues.lines.length = 8 →
    s.cues.pins.getLsbD n ≠ level →
    ∃ t : State, exec (.cuePinChange n level) s = .next t ∧ t = s.withCues t.cues ∧
      (∀ k < 8, t.cues.pins.getLsbD k = if k = n then level else s.cues.pins.getLsbD k) ∧
      (∀ k, k ≠ n → t.cues.line k = s.cues.line k) ∧ t.cues.asserted = s.cues.asserted ∧
      t.cues.settling = s.cues.settling ∧
      match (s.cues.line n).state, (s.cues.line n).binding with
      | .armed reference _ history, some b =>
        t.cues.line n =
          { s.cues.line n with state := .armed reference (if level = reference then none else some b.debounce) history }
      | _, _ => t.cues.line n = s.cues.line n

/-- The debounce timer expires on an ARMED line: the edge is stamped with the broadcast time, the fifth edge within
2,000 ms begins a chatter episode (COOLING, or at the third LOCKED_OUT), and otherwise the edge joins the history and, outside
CONFIGURING, requests the bound action with its stamp: the event's transition with cause cue, or CUE_IGNORED where its state
has no entry, as for FINISH in SUSPENDED (R3, R11, R140, R141, R143). -/
def Obligations.DebounceExpiryAcceptsAnEdge : Prop :=
  ∀ (n now : Nat) (s : State) (reference : Bool) (left : Nat) (history : List Nat) (b : Binding),
    s.run = .running → n < 8 → history.length ≤ 4 → s.cues.lines.length = 8 →
    (s.cues.line n).state = .armed reference (some left) history → (s.cues.line n).binding = some b →
    let pin := s.cues.pins.getLsbD n
    let into := pin == b.active
    let stamped := { s.cues.line n with lastCapture := some ⟨s.clock.seconds, s.clock.ms, into⟩ }
    let count := (s.cues.line n).episodes + 1
    let edges := if history.length = 4 then history.tail ++ [now] else history ++ [now]
    let accepted := s.setLine n { stamped with state := .armed pin none edges }
    let wanted : Option Action :=
      match b.action, into with
      | .kickoff, true => some .kickoff
      | .finish, true => some .finish
      | .overtime, true => some .overtime
      | .hold, true => some .suspend
      | .hold, false => some .resume
      | _, false => none
    (history.length = 4 ∧ now ≤ history.headD 0 + 2000 →
      exec (.debounceExpiry n now) s = .next
        (if count < 3 then
          (s.setLine n { stamped with episodes := count, state := .cooling 10000 }).post .cueChatter (.line n)
            (.quantity count)
        else
          ((s.setLine n { stamped with episodes := count, state := .lockedOut }).post .cueChatter (.line n)
            (.quantity count)).post .cueLockedOut (.line n) (.quantity 3))) ∧
    (¬(history.length = 4 ∧ now ≤ history.headD 0 + 2000) →
      (wanted = none ∨ s.sup.mode = .configuring → exec (.debounceExpiry n now) s = .next accepted) ∧
      (∀ a, wanted = some a → s.sup.mode ≠ .configuring → s.due.inPass = false →
        ∃ t : State, exec (.debounceExpiry n now) s = .next t ∧ CueActs accepted t n a b.event))

/-- The cooling timer expires: the line is ARMED on its pin level with an empty history, and a HOLD line found active takes
the broadcast time as its last capture and, outside CONFIGURING, requests SUSPEND: the event's transition with cause cue, or
CUE_IGNORED where its state has no entry; any other requests nothing. The reserved
line 0 is read as a level: a pin that differs from the asserted condition starts the settling timer at 200 ms and one that
agrees stops it; at the expiry the condition changes, and one that has come to hold in HOLDOVER makes the mode STANDDOWN with
cause CUE (R3, R9, R141, R144, R147, R160). -/
def Obligations.CoolingAndSettlingEndOnThePinLevel : Prop :=
  (∀ (n left : Nat) (s : State) (b : Binding), s.run = .running → s.due.inPass = false →
    (s.cues.line n).state = .cooling left → (s.cues.line n).binding = some b →
    let pin := s.cues.pins.getLsbD n
    let armed := { s.cues.line n with state := .armed pin none [] }
    let captured := s.setLine n { armed with lastCapture := some ⟨s.clock.seconds, s.clock.ms, true⟩ }
    (¬(b.action = .hold ∧ pin = b.active) → exec (.coolingTimerExpiry n) s = .next (s.setLine n armed)) ∧
    (b.action = .hold → pin = b.active →
      (s.sup.mode = .configuring → exec (.coolingTimerExpiry n) s = .next captured) ∧
      (s.sup.mode ≠ .configuring →
        ∃ t : State, exec (.coolingTimerExpiry n) s = .next t ∧ CueActs captured t n .suspend b.event))) ∧
  (∀ (level : Bool) (s : State), s.run = .running → s.sup.policy = .cueStanddown → s.cues.pins.getLsbD 0 ≠ level →
    ∃ pins, (∀ k < 8, pins.getLsbD k = if k = 0 then level else s.cues.pins.getLsbD k) ∧
      exec (.cuePinChange 0 level) s = .next
        (s.withCues
          { s.cues with pins := pins, settling := if level = s.cues.asserted then none else some 200 })) ∧
  (∀ (s : State) (left : Nat), s.run = .running → s.cues.settling = some left →
    let t := s.withCues { s.cues with asserted := !s.cues.asserted, settling := none }
    exec .settlingTimerExpiry s = .next
      (if s.cues.asserted = false ∧ s.sup.mode = .holdover ∧ s.sup.policy = .cueStanddown then t.enterStanddown true
      else t))

/-! ### Supervision (R148 to R162) -/

/-- The keepalive replies other than DONE, in the order of the checks: CLOCK_UNSET, BAD_FIELD, WRONG_STATE, FAULT_VALUE, which
in SERVING and MAINTENANCE counts a fault with cause VALUE (the collection discarded, the challenge kept, the raised count in
SUPERVISION_FAULT, HOLDOVER at the fault limit) and elsewhere only empties the collection, and PART_TAKEN; each carries the
challenge and the parts in force. That a VALUE fault starts a new period too is log 21 (R151, R153, R154, R157). -/
def Obligations.KeepalivePartsAreChecked : Prop :=
  ∀ (h : Hdr) (part value : BitVec 8) (s : State), s.ready → h.len = 4 →
    let c := Instr.keepalive h part value
    let u := s.taken c
    let parts := s.settings.inForce.partsCount
    let fields := ReplyFields.keepalive s.sup.challenge parts
    let unset := s.sup.mode = .configuring ∧ s.clock.isSet = false
    let badField := part.toNat = 0 ∨ parts < part.toNat ∨ 2 ^ (8 / parts) ≤ value.toNat
    let expected := (255 - s.sup.challenge) / 2 ^ (8 - 8 / parts * part.toNat) % 2 ^ (8 / parts)
    (unset → exec c s = .next (u.answer c .clockUnset fields)) ∧
    (¬unset → badField → exec c s = .next (u.answer c .badField fields)) ∧
    (¬unset → ¬badField → part.toNat ≠ s.sup.collection + 1 → exec c s = .next (u.answer c .wrongState fields)) ∧
    (¬unset → ¬badField → part.toNat = s.sup.collection + 1 → value.toNat ≠ expected →
      s.sup.mode ≠ .serving → s.sup.mode ≠ .maintenance →
      exec c s = .next ((u.withSup { s.sup with collection := 0 }).answer c .faultValue fields)) ∧
    (¬unset → ¬badField → part.toNat = s.sup.collection + 1 → value.toNat ≠ expected →
      s.sup.mode = .serving ∨ s.sup.mode = .maintenance →
      ∃ t : State, exec c s = .next (t.answer c .faultValue fields) ∧ FaultCounted u t .value) ∧
    (¬unset → ¬badField → part.toNat = s.sup.collection + 1 → value.toNat = expected → part.toNat < parts →
      exec c s = .next ((u.withSup { s.sup with collection := part.toNat }).answer c .partTaken fields))

/-- A final part in CONFIGURING with the clock set makes GO: SERVING with the keepalive completed and the configuring-window
timer stopped, then the catch-up pass, in which every mark whose time is reached is fired as a transition at now_s with 0 ms
and marks placed by those firings are fired too, the starvation timer started, and DONE with the new challenge (R97, R135,
R152). -/
def Obligations.FinalPartInConfiguringMakesGo : Prop :=
  ∀ (h : Hdr) (part value : BitVec 8) (s : State), s.ready → h.len = 4 → s.sup.mode = .configuring →
    s.clock.isSet = true → 1 ≤ s.sup.challenge → s.sup.challenge ≤ 254 → IsFinalPart s part value → s.events.length = 32 →
    s.MarksOk →
    let c := Instr.keepalive h part value
    ∃ u v t : State, exec c s = .next (t.answer c .done (.keepalive t.sup.challenge t.settings.inForce.partsCount)) ∧
      KeepaliveCompleted s u .serving ∧ u.sup.configTimer = none ∧ u.sup.quiet = s.sup.quiet ∧
      u = { (s.taken c) with sup := u.sup, settings := u.settings, draws := u.draws } ∧
      FiringPass s.clock.seconds u v ∧ v.MarksOk ∧ (∀ m ∈ v.marks, s.clock.seconds < m.time) ∧
      t = v.withPort { s.port with starvation := some 2000, starved := false }

/-- A final part in SERVING or MAINTENANCE: before the half of a period with the window in force it is a fault EARLY (the
collection discarded, the challenge kept, the raised count in SUPERVISION_FAULT, a new period, HOLDOVER at the fault limit; the
settings in force there are log 21), and otherwise it completes the keepalive, changing nothing but the supervision and the
values in force (R153, R154, R157). -/
def Obligations.FinalPartInServiceIsJudged : Prop :=
  ∀ (h : Hdr) (part value : BitVec 8) (s : State) (p : Period), s.ready → h.len = 4 →
    s.sup.mode = .serving ∨ s.sup.mode = .maintenance → s.sup.period = some p → 1 ≤ s.sup.challenge →
    s.sup.challenge ≤ 254 → IsFinalPart s part value →
    let c := Instr.keepalive h part value
    let early := s.sup.windowOn = true ∧ 2 * p.elapsed < p.length
    (early →
      ∃ t : State,
        exec c s = .next (t.answer c .faultEarly (.keepalive s.sup.challenge s.settings.inForce.partsCount)) ∧
        FaultCounted (s.taken c) t .early) ∧
    (¬early →
      ∃ t : State, exec c s = .next (t.answer c .done (.keepalive t.sup.challenge t.settings.inForce.partsCount)) ∧
        KeepaliveCompleted s t s.sup.mode ∧ t.sup.configTimer = s.sup.configTimer ∧ t.sup.quiet = s.sup.quiet ∧
        t = { (s.taken c) with sup := t.sup, settings := t.settings, draws := t.draws })

/-- A final part in HOLDOVER or STANDDOWN returns the mode to SERVING whatever the time: the quiet timer stopped, the link
error count 0, from STANDDOWN the starvation timer started, SERVICE_RESUMED posted with the mode left, no mark fired and
nothing else changed (R162). -/
def Obligations.FinalPartResumesService : Prop :=
  ∀ (h : Hdr) (part value : BitVec 8) (s : State), s.ready → h.len = 4 →
    s.sup.mode = .holdover ∨ s.sup.mode = .standdown → 1 ≤ s.sup.challenge → s.sup.challenge ≤ 254 →
    IsFinalPart s part value →
    let c := Instr.keepalive h part value
    ∃ t : State, exec c s = .next (t.answer c .done (.keepalive t.sup.challenge t.settings.inForce.partsCount)) ∧
      KeepaliveCompleted s t .serving ∧ t.sup.configTimer = s.sup.configTimer ∧ t.sup.quiet = none ∧
      t.link = { (s.taken c).link with errors := 0 } ∧
      t.port =
        (if s.sup.mode = .standdown then { s.port with starvation := some 2000, starved := false } else s.port) ∧
      t.notices = (s.post .serviceResumed .none (.resumed s.sup.mode)).notices ∧
      t = { (s.taken c) with
        sup := t.sup, settings := t.settings, draws := t.draws, link := t.link, port := t.port, notices := t.notices }

/-- MAINTENANCE ENTER from SERVING and MAINTENANCE EXIT from MAINTENANCE change the mode and start a period with the new
mode's settings, keeping challenge, collection and fault count; ENTER in MAINTENANCE is refused WRONG_STATE, EXIT
elsewhere and ENTER outside both modes WRONG_MODE, and a form byte that names no form BAD_FIELD (R153, R156). -/
def Obligations.MaintenanceChangesTheMode : Prop :=
  ∀ (h : Hdr) (s : State), s.ready → h.len = 3 →
    let enter := Instr.maintenanceEnter h 1
    let exit := Instr.maintenanceExit h 2
    let now := s.settings.current
    let inForce := { s.settings.inForce with
      supervisionPeriod := now.supervisionPeriod, windowMode := now.windowMode,
      maintenancePeriod := now.maintenancePeriod }
    (s.sup.mode = .serving →
      exec enter s = .next
        ((((s.taken enter).withSettings { s.settings with inForce := inForce }).withSup
          { s.sup with mode := .maintenance, period := some ⟨now.maintenancePeriod * 1000, 0⟩,
                       windowOn := false }).answer enter .done .none)) ∧
    (s.sup.mode = .maintenance →
      exec exit s = .next
        ((((s.taken exit).withSettings { s.settings with inForce := inForce }).withSup
          { s.sup with mode := .serving, period := some ⟨now.supervisionPeriod, 0⟩,
                       windowOn := now.windowMode == 1 }).answer exit .done .none)) ∧
    (s.sup.mode = .maintenance → exec enter s = .next ((s.taken enter).answer enter .wrongState .none)) ∧
    (s.sup.mode ≠ .maintenance → exec exit s = .next ((s.taken exit).answer exit .wrongMode .none)) ∧
    (s.sup.mode ≠ .serving → s.sup.mode ≠ .maintenance →
      exec enter s = .next ((s.taken enter).answer enter .wrongMode .none)) ∧
    (∀ form : BitVec 8, form ≠ 1 → s.sup.mode = .serving ∨ s.sup.mode = .maintenance →
      let other := Instr.maintenanceEnter h form
      exec other s = .next ((s.taken other).answer other .badField .none))

/-- A period that elapses is a fault with cause MISSED: the collection is discarded, the challenge kept, the fault count
raised and SUPERVISION_FAULT posted. Below the fault limit a new period starts with the settings as they stand. At the
limit the mode becomes HOLDOVER with cause FAULTS: the period stops, the fault count becomes 0, an open batch is closed with
its CUT summary, HOLDOVER_ENTERED is posted and the policy's entry action is taken. That a fault which enters HOLDOVER takes
the period's settings into force as well, since a period starts at each fault (R153), is the model's reading (log 21), and
so is that a BATCH DATA frame in service leaves it then with the items it has left (log 24) (R68, R122, R154, R157, R158,
R160, R161). -/
def Obligations.MissedPeriodsLeadToHoldover : Prop :=
  ∀ (s : State) (p : Period), s.run = .running → s.sup.mode = .serving ∨ s.sup.mode = .maintenance →
    s.sup.period = some p →
    ∃ t : State, exec .periodTimerExpiry s = .next t ∧ FaultCounted s t .missed

/-- The quiet timer's expiry makes the mode STANDDOWN with cause QUIET: quiet and starvation timers stopped, the starved
condition cleared, STANDDOWN_ENTERED posted (R159, R161). -/
def Obligations.QuietExpiryEntersStanddown : Prop :=
  ∀ (s : State) (left : Nat), s.run = .running → s.sup.quiet = some left →
    exec .quietTimerExpiry s = .next
      (((s.withSup { s.sup with mode := .standdown, quiet := none }).withPort
        { s.port with starvation := none, starved := false }).post .standdownEntered .none (.standdown false))

/-! ### Resets, power (R148, R149, R163, R164, R167) -/

/-- RESET is answered DONE in both forms, an undefined form BAD_FIELD, and acts later. What RESET TABLES and
configuring-window expiry keep, beside what every reset empties: the clock but for a hold, the slot counts, the measured rate
and the rate interval (the lapse counts and the conditions of the Pacing Unit are cleared without a notice), the sequence
number, the frame being shifted, the settings, the link rate, the policy and, but for CONFIG_TIMEOUT, the notices
(R74, R75, R94, R98, R124, R149, R163, R169). -/
def Obligations.TableResetsKeepLinkRateAndClock : Prop :=
  (∀ (h : Hdr) (form : BitVec 8) (s : State), s.ready → h.len = 3 →
    let tables := Instr.resetTables h form
    let full := Instr.resetFull h 2
    (form = 1 →
      exec tables s = .next
        (((s.taken tables).withLink { (s.taken tables).link with resetDue := some .tables }).answer tables .done .none)) ∧
    (form ≠ 1 → exec tables s = .next ((s.taken tables).answer tables .badField .none)) ∧
    exec full s = .next
      (((s.taken full).withLink { (s.taken full).link with resetDue := some .full }).answer full .done .none)) ∧
  ∀ (s : State) (c : Instr), s.run = .running →
    c = .resetTablesActs ∨ (c = .configuringWindowExpiry ∧ s.sup.configTimer.isSome = true) →
    ∃ t : State, exec c s = .next t ∧
      t.notices =
        (if c = .resetTablesActs then s.notices
        else (s.post .configTimeout .none (.quantity s.settings.inForce.configWindow)).notices) ∧
      t.link =
        (if c = .resetTablesActs then
          { s.link with batch := none, unsolicited := none, service := none, tx := [], resetDue := none }
        else { s.link with batch := none, unsolicited := none }) ∧
      t.settings.current = s.settings.current ∧ t.settings.stored = s.settings.stored ∧
      t.settings.writing = s.settings.writing ∧ t.settings.inForce.linkRate = s.settings.inForce.linkRate ∧
      t.clock = { s.clock with hold := 0 } ∧
      t.pacing =
        { s.pacing with
          window := s.settings.current.windowConfigured, stretched := false, overload := false, lapses := 0,
          lapseTotal := 0 } ∧
      t.arbiter.seq = s.arbiter.seq ∧
      t.port.transfer = s.port.transfer ∧ t.port.lastGrant = s.port.lastGrant ∧ t.sup.policy = s.sup.policy ∧
      (1 ≤ s.sup.challenge → s.sup.challenge ≤ 254 →
        t.sup.challenge ≠ s.sup.challenge ∧ 1 ≤ t.sup.challenge ∧ t.sup.challenge ≤ 254)

/-- The release of power-on reset and of RESET_N and RESET FULL load the settings from the stored copy, or the defaults where
it fails its check, with SETTINGS_DEFAULTED posted then alone; the clock, the measured rate, the sequence number, the link
and the notices start afresh, and the straps select the policy, which RESET FULL keeps. RESET_N low and a loss of supply end
every activity, and make a stored copy whose write they cut short fail its check. That POWER_ON and RESET_LINE cut a write
short themselves, as the loss or the assertion before them does, is deduced (log 27). A part that is held or without supply
ignores every other row but a change of a cue pin's level, and does nothing by itself; without supply RESET_N does nothing. That
the rules on single activities hold for every row is deduced (log 23); that ATTN and the notices stay as they were until the
release, and that CP_SDO is LOW without supply too, is the model's choice (log 39) (R74, R75, R96, R130, R148, R158, R164, R167, R170). -/
def Obligations.StartsLoadTheStoredSettings : Prop :=
  (∀ (c : Instr) (s : State) (p q : Bool),
    c = .powerOn p q ∨ (c = .resetLine p q ∧ s.run ≠ .unpowered) ∨ (c = .resetFullActs ∧ s.run = .running) →
    ∃ t : State, exec c s = .next t ∧ t.run = .running ∧
      (let stored := if c ≠ .resetFullActs ∧ s.settings.writing.isSome = true then none else s.settings.stored
       t.settings.stored = stored ∧ t.settings.writing = none ∧
       t.settings.current = (match stored with
         | some x => x
         | none => .defaults) ∧
       (stored = none →
         t.notices = ⟨[⟨.settingsDefaulted, 1, 0, 0, .none, .quantity 0⟩], false, true⟩) ∧
       (stored.isSome = true → t.notices = ⟨[], false, false⟩)) ∧
      t.settings.inForce = .ofSettings t.settings.current ∧
      t.sup.policy =
        (if c = .resetFullActs then s.sup.policy
        else if p then (if q then .cueStanddown else .quietStanddown)
        else if q then .stretch else .carry) ∧
      t.clock = ⟨0, 0, false, false, false, 0, none, 0⟩ ∧
      t.pacing = ⟨0, 0, false, 0, 0, t.settings.current.windowConfigured, false, false, 0, 0, 1000⟩ ∧ t.arbiter.seq = 0 ∧
      t.port.lastGrant = none ∧ t.port.starvation = none ∧ t.port.starved = false ∧
      t.port.transfer = (if c = .resetFullActs then s.port.transfer else .idle) ∧ t.link.errors = 0 ∧
      t.link.holding = [] ∧ t.link.framing = .hunt false ∧ t.link.service = none ∧ t.link.tx = [] ∧
      t.link.unsolicited = none ∧ t.link.resetDue = none) ∧
  (∀ (c : Instr) (s : State), (c = .resetLineAsserted ∧ s.run ≠ .unpowered) ∨ c = .powerLoss →
    ∃ t : State, exec c s = .next t ∧ t.run = (if c = .powerLoss then .unpowered else .heldInReset) ∧
      t.settings.stored = (if s.settings.writing.isSome then none else s.settings.stored) ∧
      t.port.transfer = .idle ∧ t.port.sdo = false ∧ t.link.service = none ∧ t.link.tx = [] ∧
      t.walker.running = none ∧ t.sup.period = none ∧ t.notices = s.notices) ∧
  (∀ (c : Instr) (s : State), s.run ≠ .running → (∀ p q, c ≠ .powerOn p q) → (∀ p q, c ≠ .resetLine p q) →
    c ≠ .resetLineAsserted → c ≠ .powerLoss → (∀ n level, c ≠ .cuePinChange n level) → exec c s = .next s) ∧
  (∀ (n : Nat) (level : Bool) (s : State), s.run ≠ .running → n < 8 →
    ∃ pins, (∀ k < 8, pins.getLsbD k = if k = n then level else s.cues.pins.getLsbD k) ∧
      exec (.cuePinChange n level) s = .next (s.withCues { s.cues with pins := pins })) ∧
  (∀ s : State, s.run ≠ .running → s.pending = [] → step s = .next s) ∧
  (∀ (s : State) (p q : Bool), s.run = .unpowered →
    exec .resetLineAsserted s = .next s ∧ exec (.resetLine p q) s = .next s)

/-! ### Purchases, cancellations, batches (R51 to R71, R33 to R38) -/

/-- A purchase by a decoder whose region is not blacked out for every sellable event of a defined product sets its slot bit:
in the record it finds, which moves from the ring to the prompt tail and keeps its place elsewhere, or in a record created
at the prompt tail while the store has room; a bit already set is DUPLICATE and a full store STORE_FULL (R33, R35, R36, R54,
R55). -/
def Obligations.PurchaseSetsTheSlotBit : Prop :=
  ∀ (h : Hdr) (addr : BitVec 32) (product : BitVec 8) (s : State) (d : ProductDef), s.ready →
    s.sup.mode = .serving ∨ s.sup.mode = .maintenance → h.len = 7 → addr.toNat < 2 ^ 26 → product.toNat < 48 →
    s.product? product.toNat = some d →
    let c := Instr.purchase h addr product
    let u := s.taken c
    let k : Key := ⟨addr.toNat / 64, product.toNat⟩
    let slot := addr.toNat % 64
    let region := s.regionOf k.block
    let sellable := (d.events.filterMap s.event?).filter fun e => e.sellable s.clock.seconds
    (∃ e ∈ sellable, e.blackout.getLsbD region = false) →
    let partly := sellable.any fun e => e.blackout.getLsbD region
    match s.store.find k with
    | some r =>
      if r.map.getLsbD slot = true then
        exec c s = .next (u.answer c .duplicate (.purchase partly (some region) (some r.place.listName)))
      else
        let inRing := r.place.listName = .ring
        ∃ t : State,
          exec c s = .next
            (t.answer c .done (.purchase partly (some region) (some (if inRing then .prompt else r.place.listName)))) ∧
          t.store.find k =
            some { r with
              map := r.map ||| BitVec.twoPow 64 slot, place := if inRing then .prompt else r.place } ∧
          (∀ k', k' ≠ k → t.store.find k' = s.store.find k') ∧
          t.store.prompt = (if inRing then s.store.prompt ++ [k] else s.store.prompt) ∧
          t.store.ring = (if inRing then s.store.ring.erase k else s.store.ring) ∧
          t.store.revoking = s.store.revoking ∧ t = { u with store := t.store }
    | none =>
      if s.store.records.length < 65536 then
        let high := s.store.records.length + 1 = 59000 ∧ s.store.highArmed = true
        ∃ t : State,
          exec c s = .next (t.answer c .done (.purchase partly (some region) (some .prompt))) ∧
          t.store.find k = some ⟨k, BitVec.twoPow 64 slot, .prompt, none, 0⟩ ∧
          (∀ k', k' ≠ k → t.store.find k' = s.store.find k') ∧
          t.store.records.length = s.store.records.length + 1 ∧ t.store.prompt = s.store.prompt ++ [k] ∧
          t.store.ring = s.store.ring ∧ t.store.revoking = s.store.revoking ∧
          t.store.highArmed = (s.store.highArmed && !decide high) ∧
          t.products = s.products.modify product.toNat (fun x => { x with records := x.records + 1 }) ∧
          t.notices = (if high then (s.post .storeHigh .none (.quantity 59000)).notices else s.notices) ∧
          t = { u with store := t.store, products := t.products, notices := t.notices }
      else exec c s = .next (u.answer c .storeFull (.purchase false (some region) none))

/-- The refusals of PURCHASE change nothing: BAD_FIELD, NO_PRODUCT, CLOSED where every admitted event is ENDED, CLOSED or
VOID, NOT_ON_SALE where none is sellable otherwise, BLACKED_OUT where the region is blacked out for every sellable event
(R51 to R54). An event is sellable in ON_SALE, and in LIVE until L seconds after the actual kickoff (R52). -/
def Obligations.PurchaseRefusalsChangeNothing : Prop :=
  ∀ (h : Hdr) (addr : BitVec 32) (product : BitVec 8) (s : State), s.ready →
    s.sup.mode = .serving ∨ s.sup.mode = .maintenance → h.len = 7 →
    let c := Instr.purchase h addr product
    let u := s.taken c
    let plain (status : Status) := u.answer c status (.purchase false none none)
    let fields := addr.toNat < 2 ^ 26 ∧ product.toNat < 48
    let onSale (e : EventEntry) :=
      e.state = .onSale ∨ (e.state = .live ∧ ∃ k, e.actualKickoff = some k ∧ s.clock.seconds < k + e.late)
    let past (e : EventEntry) := e.state = .ended ∨ e.state = .closed ∨ e.state = .void
    (¬fields → exec c s = .next (plain .badField)) ∧
    (fields → s.product? product.toNat = none → exec c s = .next (plain .noProduct)) ∧
    (∀ d, fields → s.product? product.toNat = some d →
      let region := s.regionOf (addr.toNat / 64)
      ((∀ i ∈ d.events, ∃ e, s.event? i = some e ∧ past e) → exec c s = .next (plain .closed)) ∧
      ((∀ i ∈ d.events, ∀ e, s.event? i = some e → ¬onSale e) → (∃ i ∈ d.events, ∀ e, s.event? i = some e → ¬past e) →
        exec c s = .next (plain .notOnSale)) ∧
      ((∃ i ∈ d.events, ∃ e, s.event? i = some e ∧ onSale e) →
        (∀ i ∈ d.events, ∀ e, s.event? i = some e → onSale e → e.blackout.getLsbD region = true) →
        exec c s = .next (u.answer c .blackedOut (.purchase false (some region) none))))

/-- CANCEL clears a held slot bit: the record goes to the revocation tail with Rv copies, or keeps its place there with its
copies refilled to Rv; the reply carries Rv and whether the map is now empty. A record or bit that is not there is NOT_HELD
(R37, R38, R57). -/
def Obligations.CancelClearsTheSlotBit : Prop :=
  ∀ (h : Hdr) (addr : BitVec 32) (product : BitVec 8) (s : State), s.ready →
    s.sup.mode = .serving ∨ s.sup.mode = .maintenance → h.len = 7 →
    let c := Instr.cancel h addr product
    let u := s.taken c
    let fields := addr.toNat < 2 ^ 26 ∧ product.toNat < 48
    let k : Key := ⟨addr.toNat / 64, product.toNat⟩
    let slot := addr.toNat % 64
    let rv := s.settings.current.revocationCopies
    (¬fields → exec c s = .next (u.answer c .badField .none)) ∧
    (fields → s.product? product.toNat = none → exec c s = .next (u.answer c .noProduct .none)) ∧
    (fields → (s.product? product.toNat).isSome = true →
      (∀ r, s.store.find k = some r → r.map.getLsbD slot = false) → exec c s = .next (u.answer c .notHeld .none)) ∧
    (∀ r, fields → (s.product? product.toNat).isSome = true → s.store.find k = some r → r.map.getLsbD slot = true →
      let map := r.map &&& ~~~BitVec.twoPow 64 slot
      ∃ t : State, exec c s = .next (t.answer c .done (.cancelled rv (map == 0))) ∧
        t.store.find k = some { r with map := map, place := .revoking rv } ∧
        (∀ k', k' ≠ k → t.store.find k' = s.store.find k') ∧
        t.store.prompt = (if r.place.listName = .prompt then s.store.prompt.erase k else s.store.prompt) ∧
        t.store.ring = (if r.place.listName = .ring then s.store.ring.erase k else s.store.ring) ∧
        t.store.revoking = (if r.place.listName = .revoking then s.store.revoking else s.store.revoking ++ [k]) ∧
        t = { u with store := t.store })

/-- BATCH OPEN opens a fresh context with its TAG, or is refused BAD_FIELD; a BATCH DATA frame taken into it is in service
with its items and restarts the idle timer without a reply, and without an open batch is refused WRONG_STATE; BATCH END
replies with the summary ENDED_EARLY and closes the context; the idle timeout closes it with the summary TIMED_OUT, sent
at once on an idle transmitter (R60, R61, R64, R67, R69, R70, R175). -/
def Obligations.BatchesOpenTakeFramesAndClose : Prop :=
  (∀ (h : Hdr) (op : BitVec 8) (count : BitVec 16) (s : State), s.ready →
    s.sup.mode = .serving ∨ s.sup.mode = .maintenance → h.len = 5 →
    let c := Instr.batchOpen h op count
    let u := s.taken c
    exec c s = .next
      (if (op = 1 ∨ op = 2) ∧ count ≠ 0 then
        (u.withLink
          { u.link with
            batch := some ⟨op == 2, count.toNat, h.tag, 0, 0, 0, 0, ⟨0, 0, 0, 0, 0, 0, 0⟩, 0, [], 2000⟩ }).answer c .done
          (.batchOpened (op == 2) count.toNat)
      else u.answer c .badField .none)) ∧
  (∀ (h : Hdr) (items : List BatchEntry) (s : State), s.ready → s.sup.mode = .serving ∨ s.sup.mode = .maintenance →
    1 ≤ items.length → items.length ≤ 20 → h.len = 2 + 5 * items.length →
    let c := Instr.batchData h items
    let u := s.taken c
    exec c s = .next
      (match s.link.batch with
      | some b =>
        u.withLink { u.link with batch := some { b with idle := 2000 }, service := some ⟨0x14, h.tag, .items items⟩ }
      | none => u.answer c .wrongState .none)) ∧
  (∀ (h : Hdr) (s : State), s.ready → s.sup.mode = .serving ∨ s.sup.mode = .maintenance → h.len = 2 →
    let c := Instr.batchEnd h
    let u := s.taken c
    exec c s = .next
      (match s.link.batch with
      | some b => (u.withLink { u.link with batch := none }).answer c .done (.summary .endedEarly b)
      | none => u.answer c .wrongState .none)) ∧
  (∀ (s : State) (b : Batch), s.ready → s.link.batch = some b →
    exec .batchIdleTimeout s = .next
      (s.withLink
        { s.link with batch := none, tx := [⟨⟨0x95, b.tag, .done, .summary .timedOut b⟩, false⟩] }))

/-- One batch item is tested as the single command is, raises items taken by one, is counted by its outcome, a refused one in the
count of its status, and then listed while the list holds fewer than 8; at the terminal count the rest of the frame is surplus and the summary is sent,
and otherwise the batch stays open (R62, R63, R70). -/
def Obligations.BatchItemsAreTestedAndCounted : Prop :=
  ∀ (s : State) (kind tag : BitVec 8) (x : BatchEntry) (rest : List BatchEntry) (b : Batch), s.run = .running →
    s.link.service = some ⟨kind, tag, .items (x :: rest)⟩ → s.link.batch = some b → s.link.unsolicited = none →
    let purchase := s.purchaseTest x.addr x.product
    let cancel := s.cancelTest x.addr x.product
    let status := if b.cancels then cancel.1.1 else purchase.1.status
    let partly := !b.cancels && purchase.1.partly
    ∃ (t : State) (b' : Batch), exec .batchItem s = .next t ∧
      t = (if b.cancels then cancel.2 else purchase.2).withLink t.link ∧
      b'.taken = b.taken + 1 ∧ b'.cancels = b.cancels ∧ b'.count = b.count ∧ b'.tag = b.tag ∧ b'.idle = b.idle ∧
      b'.accepted = b.accepted + (if status = .done then 1 else 0) ∧
      b'.partly = b.partly + (if status = .done ∧ partly = true then 1 else 0) ∧
      b'.duplicates = b.duplicates + (if status = .duplicate then 1 else 0) ∧
      b'.refused.total = b.refused.total + (if status = .done ∨ status = .duplicate then 0 else 1) ∧
      b'.refused =
        (match status with
        | .badField => { b.refused with badField := b.refused.badField + 1 }
        | .noProduct => { b.refused with noProduct := b.refused.noProduct + 1 }
        | .notOnSale => { b.refused with notOnSale := b.refused.notOnSale + 1 }
        | .closed => { b.refused with closed := b.refused.closed + 1 }
        | .blackedOut => { b.refused with blackedOut := b.refused.blackedOut + 1 }
        | .storeFull => { b.refused with storeFull := b.refused.storeFull + 1 }
        | .notHeld => { b.refused with notHeld := b.refused.notHeld + 1 }
        | _ => b.refused) ∧
      b'.listed =
        (if status = .done ∨ status = .duplicate ∨ 8 ≤ b.listed.length then b.listed
        else b.listed ++ [(b.taken + 1, status)]) ∧
      (if b.count ≤ b.taken + 1 then
        b'.surplus = min 65535 (b.surplus + rest.length) ∧
        t.link = { s.link with
          batch := none, service := some ⟨kind, tag, .replying⟩,
          tx := s.link.tx ++ [⟨⟨0x95, b.tag, .done, .summary .terminal b'⟩, true⟩] }
      else
        b'.surplus = b.surplus ∧
        t.link = { s.link with
          batch := some b', service := if rest = [] then none else some ⟨kind, tag, .items rest⟩ })

/-! ### Queries and notices (R28, R29, R48, R49, R166, R177 to R181) -/

/-- GET, STATUS and the four show commands report what stands in the state, in every mode, and change nothing. STATUS
reports A16 as 0 while unseeded, and demand where the ring head is due. -/
def Obligations.QueriesReportAndChangeNothing : Prop :=
  ∀ (h : Hdr) (s : State), s.ready →
    (∀ id : BitVec 8, h.len = 3 →
      let c := Instr.get h id
      exec c s = .next
        (match settingValue s.settings.current id.toNat, valueInForce s.settings id.toNat with
        | some v, some w => (s.taken c).answer c .done (.settingRead id v w)
        | _, _ => (s.taken c).answer c .badField .none)) ∧
    (h.len = 2 →
      let c := Instr.status h
      ∃ demand : Bool,
        (demand = true ↔ ∃ k r d, s.store.ring.head? = some k ∧ s.store.find k = some r ∧ r.place = .ring d ∧
          d ≤ s.clock.seconds) ∧
        exec c s = .next
          ((s.taken c).answer c .done
            (.status
              { mode := s.sup.mode, policy := s.sup.policy, challenge := s.sup.challenge, faults := s.sup.faults,
                seconds := s.clock.seconds, ms := s.clock.ms, isSet := s.clock.isSet, locked := s.clock.locked,
                linkErrors := s.link.errors, records := s.store.records.length,
                promptLength := s.store.prompt.length, ringLength := s.store.ring.length,
                revokingLength := s.store.revoking.length, window := s.pacing.window, capacity := s.pacing.capacity,
                a16 := if s.pacing.seeded = true then s.pacing.a16 else 0, demand := demand,
                lapseTotal := s.pacing.lapseTotal, queued := s.notices.queue.length, overflow := s.notices.overflow,
                running := s.walker.running.map Job.kind, pendingVoid := s.walker.pendingVoid.isSome,
                pendingPurge := s.walker.pendingPurge.isSome, pendingExtend := s.walker.pendingExtend.isSome,
                seq := s.arbiter.seq, lastCount := s.pacing.lastCount }))) ∧
    (∀ idx : BitVec 8, h.len = 3 →
      let c := Instr.showEvent h idx
      let i := idx.toNat
      exec c s = .next
        (if 32 ≤ i then (s.taken c).answer c .badField .none
        else
          match s.event? i with
          | none => (s.taken c).answer c .noEvent .none
          | some e =>
            (s.taken c).answer c .done
              (.event i e e.bound (s.marks.find? fun m => m.event == i) (s.admitting i) (s.cues.boundLines i)))) ∧
    (∀ idx : BitVec 8, h.len = 3 →
      let c := Instr.showProduct h idx
      let p := idx.toNat
      exec c s = .next
        (if 48 ≤ p then (s.taken c).answer c .badField .none
        else
          match s.product? p with
          | none => (s.taken c).answer c .noProduct .none
          | some d =>
            (s.taken c).answer c .done
              (.product p d (s.products.getD p ⟨none, 0⟩).records
                (d.events.map fun i => (i, (s.event? i).map EventEntry.state, s.eventBound i))))) ∧
    (∀ (block : BitVec 32) (product : BitVec 8), h.len = 7 →
      let c := Instr.showRecord h block product
      let k : Key := ⟨block.toNat, product.toNat⟩
      exec c s = .next
        (if 2 ^ 20 ≤ block.toNat ∨ 48 ≤ product.toNat then (s.taken c).answer c .badField .none
        else if s.product? product.toNat = none then (s.taken c).answer c .noProduct .none
        else
          match s.store.find k with
          | none => (s.taken c).answer c .notHeld .none
          | some r =>
            (s.taken c).answer c .done (.record r ((s.store.keysOf r.place.listName).idxOf k + 1)))) ∧
    (∀ addr : BitVec 32, h.len = 6 →
      let c := Instr.showDecoder h addr
      exec c s = .next
        (if 2 ^ 26 ≤ addr.toNat then (s.taken c).answer c .badField .none
        else
          (s.taken c).answer c .done
            (.decoder
              ((s.store.records.filter fun r =>
                r.key.block == addr.toNat / 64 && r.map.getLsbD (addr.toNat % 64)).map fun r =>
                (r.key.product, r.place.listName, r.stamp.map Stamp.horizon)))))

/-- A notice posted takes its kind's level and the broadcast time; at level 7 it is not queued. It joins the tail of a queue
with fewer than 64; a full queue takes it in place of the newest notice of the least urgent level held, if it is more urgent
than that level, and discards it otherwise, with the overflow flag set; an urgent notice that joins asserts ATTN. NOTICES
removes up to 8 of the oldest notices, reads the count remaining and the overflow flag, and clears the flag. When the last
byte of a frame is sent, a reply ends its command's service, a waiting summary starts on the idle transmitter, and after a
NOTICES reply ATTN is negated unless the queue holds an urgent notice (R174, R175, R178 to R181). That this check is made
after any reply of kind 0x9B, a refused NOTICES included, is the model's choice (log 14), and so is a summary sent behind the
reply of a RESET before the reset acts (log 35). -/
def Obligations.NoticesAreCollectedAndRepliesEndService : Prop :=
  (∀ (s : State) (kind : NoticeKind) (subject : Subject) (value : NoticeValue),
    let level := s.settings.current.levels.getD (kind.code - 1) 7
    let n : Notice := ⟨kind, level, s.clock.seconds, s.clock.ms, subject, value⟩
    let q := s.notices
    let attn := q.attn || decide (level ≤ s.settings.current.attnThreshold)
    let t := s.post kind subject value
    (7 ≤ level → t = s) ∧
    (level < 7 → q.queue.length < 64 → t = s.withNotices ⟨q.queue ++ [n], q.overflow, attn⟩) ∧
    (level < 7 → 64 ≤ q.queue.length → (∀ x ∈ q.queue, x.level ≤ level) →
      t = s.withNotices { q with overflow := true }) ∧
    (∀ older newer x, level < 7 → 64 ≤ q.queue.length → q.queue = older ++ x :: newer → level < x.level →
      (∀ y ∈ older, y.level ≤ x.level) → (∀ y ∈ newer, y.level < x.level) →
      t = s.withNotices ⟨older ++ newer ++ [n], true, attn⟩)) ∧
  (∀ (h : Hdr) (s : State), s.ready → h.len = 2 →
    let c := Instr.notices h
    exec c s = .next
      (((s.taken c).withNotices { s.notices with queue := s.notices.queue.drop 8, overflow := false }).answer c .done
        (.notices (s.notices.queue.take 8) (s.notices.queue.length - 8) s.notices.overflow))) ∧
  (∀ (s : State) (o : Outgoing) (rest : List Outgoing), s.run = .running → s.link.tx = o :: rest →
    let service := if o.ends = true then none else s.link.service
    let link :=
      match s.link.unsolicited with
      | some r =>
        if service = none ∧ rest = [] then
          { s.link with service := none, tx := [⟨r, false⟩], unsolicited := none }
        else { s.link with service := service, tx := rest }
      | none => { s.link with service := service, tx := rest }
    exec .replySent s = .next
      ((s.withLink link).withNotices
        (if o.reply.kind = 0x9B ∧ ∀ n ∈ s.notices.queue, s.settings.current.attnThreshold < n.level then
          { s.notices with attn := false }
        else s.notices)))

/-! ### The Order Link (R65, R171 to R176) -/

/-- A command that the mode does not serve is refused WRONG_MODE, one with a body length its kind does not permit BAD_LENGTH,
and a KIND that names no command UNKNOWN_KIND with reply KIND 0xFF; nothing else changes. HOLDOVER and STANDDOWN serve only
KEEPALIVE, GET, STATUS, the four show commands, NOTICES and RESET. A BATCH DATA refused so restarts the idle timer of an open
batch, and changes nothing else (R69, R174, R176). -/
def Obligations.UnservedCommandsAreRefused : Prop :=
  (∀ (c : Instr) (s : State), (linkFrame c).isSome = true → (∀ h k, c ≠ .unknownKind h k) →
    (∀ h items, c ≠ .batchData h items) → s.ready →
    (servedIn s.sup.mode c = false → exec c s = .next ((s.taken c).answer c .wrongMode .none)) ∧
    (s.sup.mode = .holdover ∨ s.sup.mode = .standdown →
      (kindOf c).toNat ∉ [0x0E, 0x02, 0x16, 0x17, 0x18, 0x19, 0x1A, 0x1B, 0x1C] →
      exec c s = .next ((s.taken c).answer c .wrongMode .none)) ∧
    (servedIn s.sup.mode c = true → lengthOk c = false →
      exec c s = .next ((s.taken c).answer c .badLength .none))) ∧
  (∀ (h : Hdr) (kind : BitVec 8) (s : State), s.ready →
    exec (.unknownKind h kind) s = .next ((s.taken (.unknownKind h kind)).reply 0xFF h.tag .unknownKind .none)) ∧
  (∀ (h : Hdr) (items : List BatchEntry) (s : State), s.ready →
    let c := Instr.batchData h items
    let u := (s.taken c).withLink
      { (s.taken c).link with batch := s.link.batch.map fun b => { b with idle := 2000 } }
    (s.sup.mode ≠ .serving → s.sup.mode ≠ .maintenance → exec c s = .next (u.answer c .wrongMode .none)) ∧
    (s.sup.mode = .serving ∨ s.sup.mode = .maintenance →
      ¬(7 ≤ h.len ∧ h.len ≤ 102 ∧ (h.len - 2) % 5 = 0) → exec c s = .next (u.answer c .badLength .none)))

/-- A command taken while a batch is open closes it and sends its summary with the flag CUT before its own reply, whether or
not the command is then refused, unless its kind is BATCH DATA, BATCH END, KEEPALIVE, STATUS, NOTICES or RESET (R65, R66). -/
def Obligations.CommandsCutAnOpenBatch : Prop :=
  ∀ (c : Instr) (s : State) (b : Batch), (linkFrame c).isSome = true → s.ready → s.link.batch = some b →
    (kindOf c).toNat ∉ [0x14, 0x15, 0x0E, 0x16, 0x1B, 0x1C] →
    ∃ (t : State) (rest : List Outgoing), exec c s = .next t ∧
      t.link.tx = ⟨⟨0x95, b.tag, .done, .summary .cut b⟩, false⟩ :: rest ∧
      ((∀ h op n, c ≠ .batchOpen h op n) → t.link.batch = none)

/-- The receiver assembles frames byte by byte: START in HUNT when armed, then LEN, body and CRC; a whole frame whose CRC-16
agrees is held if the holding has room, lowers the error count and leaves the receiver armed (R171, R173). The rows for
a byte, for the byte that completes a frame and for a LEN byte out of range share the reception (log 30). -/
def Obligations.ReceiverAssemblesFrames : Prop :=
  ∀ (c : Instr) (b : BitVec 8) (s : State), c = .byteReceived b ∨ c = .frameCompletes b ∨ c = .lenOutOfRange b →
    s.run = .running →
    let nowIn (f : Framing) := s.withLink { s.link with lastByte := s.osc, framing := f }
    (s.link.framing = .hunt true → exec c s = .next (nowIn (if b = 0xA5 then .inFrame [0xA5] else .hunt false))) ∧
    (s.link.framing = .hunt false → exec c s = .next (nowIn (.hunt false))) ∧
    (∀ x, s.link.framing = .inFrame [x] → 2 ≤ b.toNat → b.toNat ≤ 250 → exec c s = .next (nowIn (.inFrame [x, b]))) ∧
    (∀ x len bytes, s.link.framing = .inFrame (x :: len :: bytes) → bytes.length + 1 < len.toNat + 2 →
      exec c s = .next (nowIn (.inFrame (x :: len :: (bytes ++ [b]))))) ∧
    (∀ x len body hi, s.link.framing = .inFrame (x :: len :: (body ++ [hi])) → body.length = len.toNat →
      crc16 (len :: body) = hi ++ b → s.link.holding.length < 4 →
      exec c s = .next
        ((s.withLink
          { s.link with
            lastByte := s.osc, framing := .hunt true, holding := s.link.holding ++ [body],
            errors := s.link.errors - 1 }).withSup
          (if s.sup.mode = .holdover ∧ s.sup.policy = .quietStanddown then
            { s.sup with quiet := some (s.settings.current.quietTime * 1000) }
          else s.sup)))

/-- A frame error: a LEN byte out of range, a CRC that differs, a good frame that finds the holding full, or a gap inside a
frame. The frame is discarded, the receiver hunts unarmed (after a gap armed), a running quiet timer restarts, and the link
error count rises by one, or at the threshold becomes 0 with LINK_DEGRADED and, in SERVING and MAINTENANCE, entry to HOLDOVER
with cause LINK and all that R157 says of it; four character times of idle arm the receiver (R68, R122, R157 to R161, R171 to
R173). The rows for a byte, for the byte that completes a frame and for a LEN byte out of range share the reception (log 30),
a commanded expiry acts whatever time has passed (log 3), and a BATCH DATA frame in service at the entry to HOLDOVER leaves it
with the items it has left (log 24). -/
def Obligations.FrameErrorsAreCounted : Prop :=
  (∀ (c : Instr) (s : State) (armed : Bool), s.run = .running →
    ((c = .byteGapExpiry ∧ armed = true ∧ ∃ bytes, s.link.framing = .inFrame bytes) ∨
      (armed = false ∧ ∃ b, (c = .byteReceived b ∨ c = .frameCompletes b ∨ c = .lenOutOfRange b) ∧
        ((∃ x, s.link.framing = .inFrame [x] ∧ ¬(2 ≤ b.toNat ∧ b.toNat ≤ 250)) ∨
          ∃ x len body hi, s.link.framing = .inFrame (x :: len :: (body ++ [hi])) ∧ body.length = len.toNat ∧
            (crc16 (len :: body) ≠ hi ++ b ∨ 4 ≤ s.link.holding.length)))) →
    let threshold := s.settings.current.linkThreshold
    let link (errors : Nat) :=
      { s.link with
        lastByte := if armed then s.link.lastByte else s.osc, framing := .hunt armed, errors := errors }
    let quiet :=
      if s.sup.mode = .holdover ∧ s.sup.policy = .quietStanddown then some (s.settings.current.quietTime * 1000)
      else s.sup.quiet
    let u (errors : Nat) := (s.withLink (link errors)).withSup { s.sup with quiet := quiet }
    let degraded := (u 0).post .linkDegraded .none (.quantity threshold)
    (s.link.errors < threshold → exec c s = .next (u (s.link.errors + 1))) ∧
    (threshold ≤ s.link.errors →
      (s.sup.mode ≠ .serving → s.sup.mode ≠ .maintenance → exec c s = .next degraded) ∧
      (s.sup.mode = .serving ∨ s.sup.mode = .maintenance →
        ∃ t : State, exec c s = .next t ∧ HoldoverEntered degraded t true))) ∧
  (∀ s : State, s.run = .running →
    exec .huntArmed s = .next
      (match s.link.framing with
      | .hunt _ => s.withLink { s.link with framing := .hunt true }
      | .inFrame _ => s))

/-! ### Second marks, pacing, carousel, sweeps (R75 to R120, R134) -/

/-- One step of a firing pass outside CONFIGURING: the first mark, if its time is reached, is handed to its event as a
transition with cause timer at the second mark's now_s with 0 ms, and the pass goes on while a further mark is due; with
no mark due, and in CONFIGURING, the pass ends and nothing fires (R134). -/
def Obligations.MarksFireInOrder : Prop :=
  ∀ (s : State) (now : Nat) (rest : List Nat), s.run = .running → s.due.passes = now :: rest → s.MarksOk →
    let ended := { s.due with passes := rest, inPass := false }
    (s.sup.mode = .configuring ∨ (∀ m ∈ s.marks, now < m.time) → exec .markFiring s = .next (s.withDue ended)) ∧
    (∀ m marks, s.sup.mode ≠ .configuring → s.marks = m :: marks → m.time ≤ now →
      ∃ (t : State) (x y : EventEntry), s.event? m.event = some x ∧
        entryAfter x m.kind.action now 0 = some (y, none) ∧ TransitionTo s t m.event y .timer none ∧
        exec .markFiring s = .next
          (t.withDue (if ∃ m', t.marks.head? = some m' ∧ m'.time ≤ now then { s.due with inPass := true } else ended)))

/-- A firing pass in progress is completed before an EVENT ACTION, EVENT, EVENT TIMES or BLACKOUT with fields in range acts,
before a CUE BIND or CUE CLEAR UNBIND that is not refused, and before an accepted edge or the end of a cooling period that
requests an action: the row acts as on the state whose pass is complete. This is the model's choice (log 13), drawn from the
rule that no other transition request comes between two firings (R134, R138, R139, R141, R144). The completed pass makes every
firing that is due in list order, and leaves no mark due and no pass in progress. -/
def Obligations.PassInProgressIsCompletedFirst : Prop :=
  (∀ (c : Instr) (h : Hdr) (idx : BitVec 8) (s : State), s.ready → servedIn s.sup.mode c = true → lengthOk c = true →
    idx.toNat < 32 →
    (∃ a, actionCommand h idx a = some c) ∨ (∃ regions, c = .blackout h idx regions) ∨
      (∃ so k e, c = .eventTimes h idx so k e ∧ timesOk so k e = true) ∨
      (∃ so k e l g a, c = .event h idx so k e l g a ∧ timesOk so k e = true ∧ windowsOk l g a = true) →
    exec c s = exec c s.finishPass) ∧
  (∀ (h : Hdr) (line ev action level : BitVec 8) (debounce : BitVec 16) (s : State), s.ready → settingModes s.sup.mode →
    h.len = 8 → line.toNat < 8 → ev.toNat < 32 → (cueActionOf action).isSome = true → level.toNat ≤ 1 →
    10 ≤ debounce.toNat → debounce.toNat ≤ 500 → ¬(s.sup.policy = .cueStanddown ∧ line.toNat = 0) →
    exec (.cueBind h line ev action level debounce) s = exec (.cueBind h line ev action level debounce) s.finishPass) ∧
  (∀ (h : Hdr) (line : BitVec 8) (s : State), s.ready → settingModes s.sup.mode → h.len = 4 → line.toNat < 8 →
    ¬(s.sup.policy = .cueStanddown ∧ line.toNat = 0) → (s.cues.line line.toNat).state ≠ .unbound →
    exec (.cueClearUnbind h line 1) s = exec (.cueClearUnbind h line 1) s.finishPass) ∧
  (∀ (n now : Nat) (s : State) (reference : Bool) (left : Nat) (history : List Nat) (b : Binding), s.run = .running →
    history.length ≤ 4 → (s.cues.line n).state = .armed reference (some left) history → (s.cues.line n).binding = some b →
    ¬(history.length = 4 ∧ now ≤ history.headD 0 + 2000) →
    (s.cues.pins.getLsbD n = b.active ∨ b.action = .hold) → s.sup.mode ≠ .configuring →
    exec (.debounceExpiry n now) s = exec (.debounceExpiry n now) s.finishPass) ∧
  (∀ (n left : Nat) (s : State) (b : Binding), s.run = .running → (s.cues.line n).state = .cooling left →
    (s.cues.line n).binding = some b → b.action = .hold → s.cues.pins.getLsbD n = b.active → s.sup.mode ≠ .configuring →
    exec (.coolingTimerExpiry n) s = exec (.coolingTimerExpiry n) s.finishPass) ∧
  (∀ (s : State) (now : Nat) (rest : List Nat), s.events.length = 32 → s.MarksOk → s.due.passes = now :: rest →
    s.due.inPass = true →
    let t := s.finishPass
    (∃ u : State, FiringPass now s u ∧ t = u.withDue { s.due with passes := rest, inPass := false }) ∧
    t.MarksOk ∧ (∀ m ∈ t.marks, now < m.time))

/-- At a second mark the target window follows R, C, W_cfg and G, W_eff rises to it at once or falls by one, and the notices
CAROUSEL_OVERLOAD on entry to overload, WINDOW_STRETCHED or WINDOW_RELAXED on a change of the stretched condition, and LAPSE
for lapses counted follow in this order, which log 14 names (R78 to R81, R89). -/
def Obligations.WindowFollowsTheTarget : Prop :=
  ∀ s : State, s.run = .running → 0 < s.due.window →
    let r := s.store.ring.length
    let c := s.pacing.capacity
    let wcfg := s.settings.current.windowConfigured
    let round := (r + c - 1) / c + s.settings.current.guard
    let overloaded := r ≠ 0 ∧ (c = 0 ∨ 3600 < round)
    let target := if r = 0 then wcfg else if overloaded then 3600 else max wcfg round
    let window := if s.pacing.window ≤ target then target else s.pacing.window - 1
    let u := s.withDue { s.due with window := s.due.window - 1 }
    let a := if overloaded ∧ s.pacing.overload = false then u.post .carouselOverload .none (.quantity r) else u
    let b :=
      if wcfg < window ∧ s.pacing.stretched = false then a.post .windowStretched .none (.quantity window)
      else if ¬wcfg < window ∧ s.pacing.stretched = true then a.post .windowRelaxed .none (.quantity wcfg)
      else a
    let d := if 0 < s.pacing.lapses then b.post .lapse .none (.quantity s.pacing.lapses) else b
    exec .windowStep s = .next
      (d.withPacing
        { s.pacing with
          window := window, overload := decide overloaded, stretched := decide (wcfg < window), lapses := 0 })

/-- At a second mark TIME-pending is set and every event of R107 whose interval has elapsed joins the announcement list in
ascending index; at a rate interval the count becomes S, A16 is seeded or moved by an eighth of the difference toward 16 S,
and C is recomputed (R75 to R77, R105 to R107). That the row ANNOUNCE_INTERVAL_CHECK sets TIME-pending (log 28), and that it
takes the announce interval into force (log 29), is deduced; that the check reads the seconds count as it stands is the model's
choice (log 37). -/
def Obligations.AnnouncementsAndRateFollowTheirTicks : Prop :=
  (∀ s : State, s.run = .running → 0 < s.due.announce →
    let interval := s.settings.current.announceInterval
    let joins (i : Nat) : Bool :=
      match s.event? i with
      | some e =>
        e.state.cycled && !s.arbiter.announcements.contains i && !s.arbiter.retired.getLsbD i &&
        match e.lastAnnounced with
        | some t => decide (t + interval ≤ s.clock.seconds)
        | none => true
      | none => false
    exec .announceIntervalCheck s = .next
      (((s.withDue { s.due with announce := s.due.announce - 1 }).withSettings
        { s.settings with inForce := { s.settings.inForce with announceInterval := interval } }).withArbiter
        { s.arbiter with
          timePending := true,
          announcements := s.arbiter.announcements ++ (List.range 32).filter joins })) ∧
  (∀ s : State, s.run = .running → s.pacing.a16 ≤ 80000 →
    ∃ a : Nat,
      (s.pacing.seeded = false → a = 16 * s.pacing.slotCount) ∧
      (s.pacing.seeded = true → s.pacing.a16 ≤ 16 * s.pacing.slotCount →
        a = s.pacing.a16 + (16 * s.pacing.slotCount - s.pacing.a16) / 8) ∧
      (s.pacing.seeded = true → 16 * s.pacing.slotCount < s.pacing.a16 →
        a = s.pacing.a16 - (s.pacing.a16 - 16 * s.pacing.slotCount) / 8) ∧
      exec .rateInterval s = .next
        (s.withPacing
          { s.pacing with
            lastCount := s.pacing.slotCount, slotCount := 0, seeded := true, a16 := a,
            capacity := a * s.settings.current.refreshShare / 1600, rateIn := 1000 }))

/-- The source of a grant: filler alone in CONFIGURING and STANDDOWN, and else the first of due ring head, revocation head,
TIME, announcement head, prompt head, ring head that has something to send (R99, R100). -/
def Obligations.SourceFollowsTheRanks : Prop :=
  ∀ (s : State) (k : Key) (r : GrantRecord) (i : Nat) (e : EventEntry),
    let ranked := s.sup.mode = .serving ∨ s.sup.mode = .maintenance ∨ s.sup.mode = .holdover
    let due := ∃ k' r' d, s.store.ring.head? = some k' ∧ s.store.find k' = some r' ∧ r'.place = .ring d ∧
      d ≤ s.clock.seconds
    let quiet := ¬due ∧ s.store.revoking = []
    (¬ranked → s.source = .filler) ∧
    (ranked → due → s.store.ring.head? = some k → s.store.find k = some r → s.source = .record r) ∧
    (ranked → ¬due → s.store.revoking.head? = some k → s.store.find k = some r → s.source = .record r) ∧
    (ranked → quiet → s.arbiter.timePending = true → s.source = .time) ∧
    (ranked → quiet → s.arbiter.timePending = false → s.arbiter.announcements.head? = some i → s.event? i = some e →
      s.source = .announce i e) ∧
    (ranked → quiet → s.arbiter.timePending = false → s.arbiter.announcements = [] →
      s.store.prompt.head? = some k → s.store.find k = some r → s.source = .record r) ∧
    (ranked → quiet → s.arbiter.timePending = false → s.arbiter.announcements = [] → s.store.prompt = [] →
      s.store.ring.head? = some k → s.store.find k = some r → s.source = .record r) ∧
    (ranked → quiet → s.arbiter.timePending = false → s.arbiter.announcements = [] → s.store.prompt = [] →
      s.store.ring = [] → s.source = .filler)

/-- A grant within 200 us of the last answered one changes nothing. Any other loads one frame of 256 bits, is counted, and
feeds the starvation timer: FILLER repeats the sequence number; TIME carries the clock and clears TIME-pending; ANNOUNCE
carries the event as it stands, takes it off the list, sets its last announced second and retires it in CLOSED and VOID
(R95 to R97, R105, R108 to R110). That the count stops at 5,000 is deduced (log 20), and that CP_SDO keeps its level until the
first CP_SCK clock of the frame is the model's choice (log 38). -/
def Obligations.GrantsWithoutARecord : Prop :=
  ∀ (us : Nat) (s : State), s.run = .running →
    let answered := ∀ t, s.port.lastGrant = some t → t + 200 ≤ us
    let ranked := s.sup.mode = .serving ∨ s.sup.mode = .maintenance ∨ s.sup.mode = .holdover
    let feeds := ranked ∧ (s.port.starvation.isSome = true ∨ s.port.starved = true)
    let port (seq : BitVec 16) (body : FrameBody) : Port :=
      { s.port with
        lastGrant := some us, transfer := .shifting ⟨seq, body⟩ 256,
        starvation := if feeds then some 2000 else s.port.starvation,
        starved := if feeds then false else s.port.starved }
    let u := s.withPacing { s.pacing with slotCount := min 5000 (s.pacing.slotCount + 1) }
    let next := s.arbiter.seq + 1
    (¬answered → exec (.slotGrant us) s = .next s) ∧
    (answered → s.source = .filler → exec (.slotGrant us) s = .next (u.withPort (port s.arbiter.seq .filler))) ∧
    (answered → s.source = .time →
      exec (.slotGrant us) s = .next
        ((u.withArbiter { s.arbiter with timePending := false, seq := next }).withPort
          (port next (.time s.clock.seconds s.clock.ms s.clock.locked)))) ∧
    (∀ i e, answered → s.source = .announce i e →
      exec (.slotGrant us) s = .next
        (((u.withEvents (s.events.set i (some { e with lastAnnounced := some s.clock.seconds }))).withArbiter
          { s.arbiter with
            announcements := s.arbiter.announcements.tail, seq := next,
            retired :=
              if e.state = .closed ∨ e.state = .void then s.arbiter.retired ||| BitVec.twoPow 32 i
              else s.arbiter.retired }).withPort
          (port next (.announce i e.state (s.admitting i) e.blackout e.bound))))

/-- The emission of a record at an answered grant, which is counted (up to 5,000, log 20), becomes the last-grant time and
feeds the starvation timer: its frame carries the map as it stands and the horizon, now_s plus W_eff or 3,600 under STRETCH
in HOLDOVER, cut to a closed bound; a lapse is counted where an unclamped last horizon is reached; the record then joins the
ring tail with a due time of now_s plus W_eff less G, never before the tail's, or owes one revocation copy fewer, or is freed
with an empty map after the last copy, which re-arms the store-high flag where 51,999 records are left (R34, R35, R39 to R41,
R73, R84, R86, R88, R95, R97, R101 to R104). CP_SDO keeps its level then (log 38). -/
def Obligations.EmissionStampsAndPlaces : Prop :=
  ∀ (us : Nat) (s : State) (r : GrantRecord), s.run = .running → (∀ t, s.port.lastGrant = some t → t + 200 ≤ us) →
    s.StoreOk → s.source = .record r → (s.store.find r.key = some r) →
    let now := s.clock.seconds
    let cap (n : Nat) := min n 4294967295
    let near := cap (now + s.pacing.window)
    let far := if s.sup.mode = .holdover ∧ s.sup.policy = .stretch then cap (now + 3600) else near
    let bound := s.boundOfProduct r.key.product
    let stamp : Stamp :=
      match bound with
      | .openEnd => ⟨far, false⟩
      | .closedAt b => if near ≤ b then ⟨min b far, false⟩ else ⟨b, true⟩
      | .noBound => ⟨now, true⟩
    let lapse := ∃ p, r.stamp = some p ∧ p.clamped = false ∧ p.horizon ≤ now
    let sent := { r with stamp := some stamp, emissions := min 65535 (r.emissions + 1) }
    let others := s.store.ring.erase r.key
    let tailDue := match others.getLast? with
      | some k => (s.store.dueOf k).getD 0
      | none => 0
    let due := max (cap (now + s.pacing.window - s.settings.current.guard)) tailDue
    let copies := match r.place with
      | .revoking n => n
      | _ => 0
    ∃ t : State, exec (.slotGrant us) s = .next t ∧
      t.arbiter = { s.arbiter with seq := s.arbiter.seq + 1 } ∧
      t.port =
        { s.port with
          lastGrant := some us,
          transfer := .shifting
            ⟨s.arbiter.seq + 1, .grant r.key.product r.key.block r.map stamp.horizon
              (decide (r.place.listName = .revoking)) stamp.clamped (copies - 1)⟩ 256,
          starvation := if s.port.starvation.isSome = true ∨ s.port.starved = true then some 2000 else none,
          starved := false } ∧
      t.pacing =
        (let p := { s.pacing with slotCount := min 5000 (s.pacing.slotCount + 1) }
         if lapse then
           { p with lapses := min 65535 (p.lapses + 1), lapseTotal := min 4294967295 (p.lapseTotal + 1) }
         else p) ∧
      (2 ≤ copies →
        t.store.find r.key = some { sent with place := .revoking (copies - 1) } ∧
        t.store.revoking = s.store.revoking.erase r.key ++ [r.key] ∧ t.store.ring = s.store.ring ∧
        t.store.prompt = s.store.prompt ∧ t.store.highArmed = s.store.highArmed ∧
        t.store.records.length = s.store.records.length ∧ t.products = s.products) ∧
      (copies ≤ 1 → (r.place.listName = .revoking → r.map ≠ 0) →
        t.store.find r.key = some { sent with place := .ring due } ∧ t.store.ring = others ++ [r.key] ∧
        t.store.revoking = s.store.revoking.erase r.key ∧ t.store.prompt = s.store.prompt.erase r.key ∧
        t.store.highArmed = s.store.highArmed ∧ t.store.records.length = s.store.records.length ∧
        t.products = s.products) ∧
      (copies ≤ 1 → r.place.listName = .revoking → r.map = 0 →
        t.store.find r.key = none ∧ t.store.ring = s.store.ring ∧ t.store.prompt = s.store.prompt ∧
        t.store.revoking = s.store.revoking.erase r.key ∧
        t.store.records.length + 1 = s.store.records.length ∧
        t.store.highArmed = (s.store.highArmed || decide (t.store.records.length = 51999)) ∧
        t.products = s.products.modify r.key.product (fun x => { x with records := x.records - 1 })) ∧
      (∀ k, k ≠ r.key → t.store.find k = s.store.find k) ∧
      t = { s with
        pacing := t.pacing, port := t.port, store := t.store, products := t.products, arbiter := t.arbiter }

/-- A carousel frame has 32 bytes, laid out as chapter 11 tables them, with the CRC-32 of the others last. The frame clock
sends the bits of the frame being shifted in order, each byte most significant bit first, and after the last the transfer is
IDLE with CP_SDO low; the starvation timer's expiry posts CAROUSEL_STARVED with R, and the condition holds with the timer
stopped (R96, R97, R188, R189). That the last bit stands only in the model's field `lastBit`, since CP_SDO goes low in the
step that sends it, is deduced (log 22). -/
def Obligations.FrameClockAndStarvation : Prop :=
  (∀ f : CarouselFrame,
    f.bytes.length = 32 ∧ bigEndian (f.bytes.drop 28) = (crc32 (f.bytes.take 28)).toNat ∧
    (Fits (carouselFields f) → LaysOut (f.bytes.take 28) (carouselFields f))) ∧
  (∀ (s : State) (f : CarouselFrame) (left : Nat), s.run = .running → s.port.transfer = .shifting f left →
    0 < left → left ≤ 256 →
    let k := 256 - left
    let bit := (f.bytes.getD (k / 8) 0).getLsbD (7 - k % 8)
    exec .frameClock s = .next
      (s.withPort
        (if left = 1 then { s.port with transfer := .idle, sdo := false, lastBit := bit }
        else { s.port with transfer := .shifting f (left - 1), sdo := bit, lastBit := bit }))) ∧
  (∀ s : State, s.run = .running → s.port.transfer = .idle → exec .frameClock s = .next s) ∧
  (∀ (s : State) (left : Nat), s.run = .running → s.port.starvation = some left →
    exec .starvationTimerExpiry s = .next
      ((s.withPort { s.port with starvation := none, starved := true }).post .carouselStarved .none
        (.quantity s.store.ring.length)))

/-- A sweep visit takes the record with the smallest key beyond the walk position: outside the job's set it is left alone;
EXTEND moves a clamped ring record to the prompt tail, PURGE frees the record, VOID clears its map and gives it Rv copies at
the revocation tail, or in its place if it stands there; the walk moves on and counts a changed record. With no further key
SWEEP_DONE is posted and the pending job first in the order VOID, PURGE, EXTEND starts (R44 to R46, R115, R116, R119). -/
def Obligations.SweepVisitsApplyTheJob : Prop :=
  ∀ (s : State) (j : Job), s.run = .running → s.walker.running = some j → s.StoreOk →
    let beyond (k : Key) := ∀ p, j.position = some p → p.before k = true
    (∀ r ∈ s.store.records, beyond r.key → (∀ r' ∈ s.store.records, beyond r'.key → r'.key.before r.key = false) →
      let rv := s.settings.current.revocationCopies
      let walked (changed : Nat) := { s.walker with
        running := some { j with position := some r.key, changed := j.changed + changed } }
      let set := j.products.getLsbD r.key.product
      let moves := set = true ∧ j.kind = .extend ∧ r.place.listName = .ring ∧ ∃ x, r.stamp = some ⟨x, true⟩
      ∃ t : State, exec .sweepVisit s = .next t ∧
        t = { s with store := t.store, products := t.products, walker := t.walker } ∧
        (∀ k, k ≠ r.key → t.store.find k = s.store.find k) ∧
        (set = false ∨ (j.kind = .extend ∧ ¬moves) →
          t.store = s.store ∧ t.products = s.products ∧ t.walker = walked 0) ∧
        (moves →
          t.store.find r.key = some { r with place := .prompt } ∧ t.store.prompt = s.store.prompt ++ [r.key] ∧
          t.store.ring = s.store.ring.erase r.key ∧ t.store.revoking = s.store.revoking ∧ t.products = s.products ∧
          t.walker = walked 1) ∧
        (set = true → j.kind = .purge →
          t.store.find r.key = none ∧ t.store.records.length + 1 = s.store.records.length ∧
          t.store.prompt = s.store.prompt.erase r.key ∧ t.store.ring = s.store.ring.erase r.key ∧
          t.store.revoking = s.store.revoking.erase r.key ∧
          t.store.highArmed = (s.store.highArmed || decide (t.store.records.length = 51999)) ∧
          t.products = s.products.modify r.key.product (fun x => { x with records := x.records - 1 }) ∧
          t.walker = walked 1) ∧
        (set = true → j.kind = .void →
          t.store.find r.key = some { r with map := 0, place := .revoking rv } ∧
          t.store.prompt = s.store.prompt.erase r.key ∧ t.store.ring = s.store.ring.erase r.key ∧
          t.store.revoking =
            (if r.place.listName = .revoking then s.store.revoking else s.store.revoking ++ [r.key]) ∧
          t.products = s.products ∧ t.walker = walked 1)) ∧
    ((∀ r ∈ s.store.records, ¬beyond r.key) →
      exec .sweepVisit s = .next
        ((s.post .sweepDone .none (.sweep j.kind j.changed)).withWalker
          (match s.walker.pendingVoid, s.walker.pendingPurge, s.walker.pendingExtend with
          | some v, p, e => ⟨some ⟨.void, v, none, 0⟩, none, p, e⟩
          | none, some p, e => ⟨some ⟨.purge, p, none, 0⟩, none, none, e⟩
          | none, none, some e => ⟨some ⟨.extend, e, none, 0⟩, none, none, none⟩
          | none, none, none => ⟨none, none, none, none⟩)))

/-! ### What every step keeps -/

/-- The state after reset meets every condition that the statements below say each step keeps. Its challenge, its stored
copy and its pins and straps are the model's choice (logs 8, 9 and 10) (R1, R50, R74, R133, R148, R164, R181). -/
def Obligations.ResetMeetsTheInvariants : Prop :=
  State.reset.SettingsOk ∧ State.reset.PacingOk ∧ State.reset.SupervisionOk ∧ State.reset.NoticesOk ∧
  State.reset.MarksOk ∧ State.reset.events.length = 32 ∧ State.reset.StoreOk ∧
  State.reset.link.errors ≤ State.reset.settings.current.linkThreshold

/-- Every step keeps the settings in range, W_eff within W_cfg and 3,600, the stretched condition equal to W_eff > W_cfg, S
within 5,000, A16 within 80,000 and C within 4,500, and the link error count within its threshold (R74, R76, R77, R80, R81,
R173, R191). -/
def Obligations.StepsKeepPacingInBounds : Prop :=
  ∀ s t : State, s.SettingsOk → s.PacingOk → s.link.errors ≤ s.settings.current.linkThreshold → step s = .next t →
    t.SettingsOk ∧ t.PacingOk ∧ t.link.errors ≤ t.settings.current.linkThreshold

/-- Every step keeps the fault count below the fault limit, the challenge in 1..254 and the collection below the parts in
force, runs the period exactly in SERVING and MAINTENANCE, the configuring-window timer exactly in CONFIGURING and the quiet
timer only in HOLDOVER under QUIET_STANDDOWN, and watches for starvation exactly in SERVING, MAINTENANCE and HOLDOVER
(R97, R148 to R155, R159). -/
def Obligations.StepsKeepSupervisionConsistent : Prop :=
  ∀ s t : State, s.SettingsOk → s.SupervisionOk → step s = .next t → t.SupervisionOk

/-- Every step keeps the notice queue within 64 notices, and ATTN asserted while it holds an urgent one (R179, R181). -/
def Obligations.StepsKeepAttnWhileUrgent : Prop :=
  ∀ s t : State, s.NoticesOk → step s = .next t → t.NoticesOk

/-- Every step keeps the Mark List in order with exactly the kind of mark that each event's state needs, so that no mark
finds its event in the wrong state (R3, R5, R133, R134). -/
def Obligations.StepsKeepMarksMatchingStates : Prop :=
  ∀ s t : State, s.events.length = 32 → s.MarksOk → step s = .next t → t.events.length = 32 ∧ t.MarksOk

/-- Every step keeps the Grant Store well formed: key order, capacity, each record in exactly the list its place names, the
ring in nondecreasing order of due time, empty maps only in the revocation queue, and each product's record count the number
of its records (R18, R31, R32, R72, R73). -/
def Obligations.StepsKeepTheStoreWellFormed : Prop :=
  ∀ s t : State, s.StoreOk → step s = .next t → t.StoreOk

/-- The policy is sampled at the release of power-on reset and of RESET_N and changes by nothing else; and STANDDOWN is left
only by KEEPALIVE or by a reset (R158, R161). -/
def Obligations.PolicyAndStanddownChangeOnlyAsGiven : Prop :=
  (∀ (c : Instr) (s t : State), exec c s = .next t → t.sup.policy ≠ s.sup.policy →
    (∃ p q, c = .powerOn p q) ∨ ∃ p q, c = .resetLine p q) ∧
  (∀ (c : Instr) (s t : State), exec c s = .next t → s.link.resetDue = none → s.sup.configTimer = none →
    s.sup.mode = .standdown → t.sup.mode ≠ .standdown →
    (∃ h p v, c = .keepalive h p v) ∨ c = .resetTablesActs ∨ c = .resetFullActs ∨ (∃ p q, c = .powerOn p q) ∨
      ∃ p q, c = .resetLine p q)

/-- The body of every well-formed Order Link command that carries exactly its fields reads back as the command. The body of
every reply, and in it every notice, is laid out as chapter 11 tables it wherever each number fits its width, and the codes
of status, list, summary, mode, policy, event state, cause, action, job, mark, fault, notice and line state are its tables'. A frame is START, LEN, the body and the CRC-16 of LEN and body, high byte
first. A byte goes out as the ten bit times of its character and reads back from them alone, and OL_TXD is idle with RESET_N
low, without supply, and while nothing is sent (R158, R170, R171, R175, R182 to R187, R190, R192). The levels of a character are log 36, the level of OL_TXD without supply log 39. -/
def Obligations.FramesReadBackAsTheirCommands : Prop :=
  (∀ (c : Instr) (kind : BitVec 8) (h : Hdr) (fields : List Byte), linkFrame c = some (kind, h, fields) →
    h.len = fields.length + 2 → c.wellFormed = true →
    ∃ body, encodeFrame c = some body ∧ body.length = h.len ∧ decodeFrame body = some c) ∧
  (∀ r : Reply,
    let layout := [(1, r.kind.toNat), (1, r.tag.toNat), (1, r.status.code.toNat)] ++ replyFields r.fields
    Fits layout → LaysOut r.body layout) ∧
  ([Status.done, .doneClamped, .duplicate, .partTaken].map Status.code = [0x00, 0x01, 0x02, 0x03] ∧
    [Status.unknownKind, .badLength, .badField, .wrongMode, .wrongState, .noProduct, .noEvent, .notOnSale, .closed,
      .blackedOut, .storeFull, .notHeld, .inUse, .clockUnset, .faultEarly, .faultValue].map Status.code =
      [0x10, 0x11, 0x12, 0x13, 0x14, 0x15, 0x16, 0x17, 0x18, 0x19, 0x1A, 0x1B, 0x1C, 0x1D, 0x1E, 0x1F] ∧
    [ListName.prompt, .ring, .revoking].map ListName.code = [1, 2, 3] ∧
    [SummaryFlag.terminal, .endedEarly, .cut, .timedOut].map SummaryFlag.code = [0, 1, 2, 4]) ∧
  ([Mode.configuring, .serving, .maintenance, .holdover, .standdown].map Mode.code = [0, 1, 2, 3, 4] ∧
    [Policy.carry, .stretch, .quietStanddown, .cueStanddown].map Policy.code = [0, 1, 2, 3] ∧
    [EvState.planned, .onSale, .live, .overtime, .suspended, .ended, .closed, .void].map EvState.code =
      [1, 2, 3, 4, 5, 6, 7, 8] ∧
    [Cause.command, .cue, .timer].map Cause.code = [1, 2, 3] ∧
    [Action.openSale, .kickoff, .overtime, .suspend, .resume, .finish, .void].map Action.code = [1, 2, 3, 4, 5, 6, 7] ∧
    [CueAction.kickoff, .finish, .overtime, .hold].map CueAction.code = [1, 2, 3, 4] ∧
    [JobKind.void, .purge, .extend].map JobKind.code = [1, 2, 3] ∧
    [MarkKind.saleOpen, .kickoff, .finish, .close].map MarkKind.code = [1, 2, 3, 4] ∧
    [FaultCause.value, .early, .missed].map FaultCause.code = [1, 2, 3] ∧
    [NoticeKind.configTimeout, .settingsDefaulted, .supervisionFault, .holdoverEntered, .standdownEntered, .serviceResumed,
      .linkDegraded, .referenceLost, .referenceRestored, .eventState, .extensionCapped, .cueChatter, .cueLockedOut,
      .cueIgnored, .windowStretched, .windowRelaxed, .carouselOverload, .carouselStarved, .lapse, .sweepDone,
      .storeHigh].map NoticeKind.code = (List.range 21).map (· + 1) ∧
    LineState.unbound.code = 0 ∧ (∀ reference debounce history, (LineState.armed reference debounce history).code = 1) ∧
    (∀ left, (LineState.cooling left).code = 2) ∧ LineState.lockedOut.code = 3) ∧
  (∀ body : List Byte, body.length ≤ 250 →
    ∃ len hi lo : Byte, linkFrameBytes body = 0xA5 :: len :: (body ++ [hi, lo]) ∧ len.toNat = body.length ∧
      hi ++ lo = crc16 (len :: body)) ∧
  (∀ b : Byte,
    (characterBits b).length = 10 ∧ (characterBits b).head? = some false ∧ (characterBits b).getLast? = some true ∧
    (∀ k < 8, (characterBits b)[k + 1]? = some (b.getLsbD k)) ∧
    ∀ bits, byteOfCharacter bits = some b ↔ bits = characterBits b) ∧
  (∀ s : State, s.run ≠ .running ∨ s.link.tx = [] → ∀ k, s.olTxd k = true) ∧
  (∀ (s : State) (o : Outgoing) (rest : List Outgoing) (n k : Nat) (b : Byte), s.run = .running → s.link.tx = o :: rest →
    (linkFrameBytes o.reply.body)[n]? = some b → k < 10 → some (s.olTxd (10 * n + k)) = (characterBits b)[k]?)
end

