-- ==== Sys2Proof/Laws/State.lean ====
section
/-! SUPPORT. One lemma for each field after each replacement of a block of the state. -/

namespace Sys2Proof.Machine

/-! ### Sup -/
@[simp] theorem State.withSup_run (s : State) (x : Supervision) : (s.withSup x).run = s.run := rfl
@[simp] theorem State.withSup_osc (s : State) (x : Supervision) : (s.withSup x).osc = s.osc := rfl
@[simp] theorem State.withSup_draws (s : State) (x : Supervision) : (s.withSup x).draws = s.draws := rfl
@[simp] theorem State.withSup_choices (s : State) (x : Supervision) : (s.withSup x).choices = s.choices := rfl
@[simp] theorem State.withSup_sup (s : State) (x : Supervision) : (s.withSup x).sup = x := rfl
@[simp] theorem State.withSup_settings (s : State) (x : Supervision) : (s.withSup x).settings = s.settings := rfl
@[simp] theorem State.withSup_clock (s : State) (x : Supervision) : (s.withSup x).clock = s.clock := rfl
@[simp] theorem State.withSup_marks (s : State) (x : Supervision) : (s.withSup x).marks = s.marks := rfl
@[simp] theorem State.withSup_due (s : State) (x : Supervision) : (s.withSup x).due = s.due := rfl
@[simp] theorem State.withSup_events (s : State) (x : Supervision) : (s.withSup x).events = s.events := rfl
@[simp] theorem State.withSup_products (s : State) (x : Supervision) : (s.withSup x).products = s.products := rfl
@[simp] theorem State.withSup_regions (s : State) (x : Supervision) : (s.withSup x).regions = s.regions := rfl
@[simp] theorem State.withSup_store (s : State) (x : Supervision) : (s.withSup x).store = s.store := rfl
@[simp] theorem State.withSup_pacing (s : State) (x : Supervision) : (s.withSup x).pacing = s.pacing := rfl
@[simp] theorem State.withSup_arbiter (s : State) (x : Supervision) : (s.withSup x).arbiter = s.arbiter := rfl
@[simp] theorem State.withSup_port (s : State) (x : Supervision) : (s.withSup x).port = s.port := rfl
@[simp] theorem State.withSup_walker (s : State) (x : Supervision) : (s.withSup x).walker = s.walker := rfl
@[simp] theorem State.withSup_cues (s : State) (x : Supervision) : (s.withSup x).cues = s.cues := rfl
@[simp] theorem State.withSup_link (s : State) (x : Supervision) : (s.withSup x).link = s.link := rfl
@[simp] theorem State.withSup_notices (s : State) (x : Supervision) : (s.withSup x).notices = s.notices := rfl
@[simp] theorem State.withSup_pending (s : State) (x : Supervision) : (s.withSup x).pending = s.pending := rfl
@[simp] theorem State.withSup_same (s : State) : s.withSup s.sup = s := rfl
@[simp] theorem State.withSup_twice (s : State) (x y : Supervision) : (s.withSup x).withSup y = s.withSup y := rfl

/-! ### Settings -/
@[simp] theorem State.withSettings_run (s : State) (x : SettingsStore) : (s.withSettings x).run = s.run := rfl
@[simp] theorem State.withSettings_osc (s : State) (x : SettingsStore) : (s.withSettings x).osc = s.osc := rfl
@[simp] theorem State.withSettings_draws (s : State) (x : SettingsStore) : (s.withSettings x).draws = s.draws := rfl
@[simp] theorem State.withSettings_choices (s : State) (x : SettingsStore) : (s.withSettings x).choices = s.choices := rfl
@[simp] theorem State.withSettings_sup (s : State) (x : SettingsStore) : (s.withSettings x).sup = s.sup := rfl
@[simp] theorem State.withSettings_settings (s : State) (x : SettingsStore) : (s.withSettings x).settings = x := rfl
@[simp] theorem State.withSettings_clock (s : State) (x : SettingsStore) : (s.withSettings x).clock = s.clock := rfl
@[simp] theorem State.withSettings_marks (s : State) (x : SettingsStore) : (s.withSettings x).marks = s.marks := rfl
@[simp] theorem State.withSettings_due (s : State) (x : SettingsStore) : (s.withSettings x).due = s.due := rfl
@[simp] theorem State.withSettings_events (s : State) (x : SettingsStore) : (s.withSettings x).events = s.events := rfl
@[simp] theorem State.withSettings_products (s : State) (x : SettingsStore) : (s.withSettings x).products = s.products := rfl
@[simp] theorem State.withSettings_regions (s : State) (x : SettingsStore) : (s.withSettings x).regions = s.regions := rfl
@[simp] theorem State.withSettings_store (s : State) (x : SettingsStore) : (s.withSettings x).store = s.store := rfl
@[simp] theorem State.withSettings_pacing (s : State) (x : SettingsStore) : (s.withSettings x).pacing = s.pacing := rfl
@[simp] theorem State.withSettings_arbiter (s : State) (x : SettingsStore) : (s.withSettings x).arbiter = s.arbiter := rfl
@[simp] theorem State.withSettings_port (s : State) (x : SettingsStore) : (s.withSettings x).port = s.port := rfl
@[simp] theorem State.withSettings_walker (s : State) (x : SettingsStore) : (s.withSettings x).walker = s.walker := rfl
@[simp] theorem State.withSettings_cues (s : State) (x : SettingsStore) : (s.withSettings x).cues = s.cues := rfl
@[simp] theorem State.withSettings_link (s : State) (x : SettingsStore) : (s.withSettings x).link = s.link := rfl
@[simp] theorem State.withSettings_notices (s : State) (x : SettingsStore) : (s.withSettings x).notices = s.notices := rfl
@[simp] theorem State.withSettings_pending (s : State) (x : SettingsStore) : (s.withSettings x).pending = s.pending := rfl
@[simp] theorem State.withSettings_same (s : State) : s.withSettings s.settings = s := rfl
@[simp] theorem State.withSettings_twice (s : State) (x y : SettingsStore) : (s.withSettings x).withSettings y = s.withSettings y := rfl

/-! ### Clock -/
@[simp] theorem State.withClock_run (s : State) (x : Clock) : (s.withClock x).run = s.run := rfl
@[simp] theorem State.withClock_osc (s : State) (x : Clock) : (s.withClock x).osc = s.osc := rfl
@[simp] theorem State.withClock_draws (s : State) (x : Clock) : (s.withClock x).draws = s.draws := rfl
@[simp] theorem State.withClock_choices (s : State) (x : Clock) : (s.withClock x).choices = s.choices := rfl
@[simp] theorem State.withClock_sup (s : State) (x : Clock) : (s.withClock x).sup = s.sup := rfl
@[simp] theorem State.withClock_settings (s : State) (x : Clock) : (s.withClock x).settings = s.settings := rfl
@[simp] theorem State.withClock_clock (s : State) (x : Clock) : (s.withClock x).clock = x := rfl
@[simp] theorem State.withClock_marks (s : State) (x : Clock) : (s.withClock x).marks = s.marks := rfl
@[simp] theorem State.withClock_due (s : State) (x : Clock) : (s.withClock x).due = s.due := rfl
@[simp] theorem State.withClock_events (s : State) (x : Clock) : (s.withClock x).events = s.events := rfl
@[simp] theorem State.withClock_products (s : State) (x : Clock) : (s.withClock x).products = s.products := rfl
@[simp] theorem State.withClock_regions (s : State) (x : Clock) : (s.withClock x).regions = s.regions := rfl
@[simp] theorem State.withClock_store (s : State) (x : Clock) : (s.withClock x).store = s.store := rfl
@[simp] theorem State.withClock_pacing (s : State) (x : Clock) : (s.withClock x).pacing = s.pacing := rfl
@[simp] theorem State.withClock_arbiter (s : State) (x : Clock) : (s.withClock x).arbiter = s.arbiter := rfl
@[simp] theorem State.withClock_port (s : State) (x : Clock) : (s.withClock x).port = s.port := rfl
@[simp] theorem State.withClock_walker (s : State) (x : Clock) : (s.withClock x).walker = s.walker := rfl
@[simp] theorem State.withClock_cues (s : State) (x : Clock) : (s.withClock x).cues = s.cues := rfl
@[simp] theorem State.withClock_link (s : State) (x : Clock) : (s.withClock x).link = s.link := rfl
@[simp] theorem State.withClock_notices (s : State) (x : Clock) : (s.withClock x).notices = s.notices := rfl
@[simp] theorem State.withClock_pending (s : State) (x : Clock) : (s.withClock x).pending = s.pending := rfl
@[simp] theorem State.withClock_same (s : State) : s.withClock s.clock = s := rfl
@[simp] theorem State.withClock_twice (s : State) (x y : Clock) : (s.withClock x).withClock y = s.withClock y := rfl

/-! ### Marks -/
@[simp] theorem State.withMarks_run (s : State) (x : List Mark) : (s.withMarks x).run = s.run := rfl
@[simp] theorem State.withMarks_osc (s : State) (x : List Mark) : (s.withMarks x).osc = s.osc := rfl
@[simp] theorem State.withMarks_draws (s : State) (x : List Mark) : (s.withMarks x).draws = s.draws := rfl
@[simp] theorem State.withMarks_choices (s : State) (x : List Mark) : (s.withMarks x).choices = s.choices := rfl
@[simp] theorem State.withMarks_sup (s : State) (x : List Mark) : (s.withMarks x).sup = s.sup := rfl
@[simp] theorem State.withMarks_settings (s : State) (x : List Mark) : (s.withMarks x).settings = s.settings := rfl
@[simp] theorem State.withMarks_clock (s : State) (x : List Mark) : (s.withMarks x).clock = s.clock := rfl
@[simp] theorem State.withMarks_marks (s : State) (x : List Mark) : (s.withMarks x).marks = x := rfl
@[simp] theorem State.withMarks_due (s : State) (x : List Mark) : (s.withMarks x).due = s.due := rfl
@[simp] theorem State.withMarks_events (s : State) (x : List Mark) : (s.withMarks x).events = s.events := rfl
@[simp] theorem State.withMarks_products (s : State) (x : List Mark) : (s.withMarks x).products = s.products := rfl
@[simp] theorem State.withMarks_regions (s : State) (x : List Mark) : (s.withMarks x).regions = s.regions := rfl
@[simp] theorem State.withMarks_store (s : State) (x : List Mark) : (s.withMarks x).store = s.store := rfl
@[simp] theorem State.withMarks_pacing (s : State) (x : List Mark) : (s.withMarks x).pacing = s.pacing := rfl
@[simp] theorem State.withMarks_arbiter (s : State) (x : List Mark) : (s.withMarks x).arbiter = s.arbiter := rfl
@[simp] theorem State.withMarks_port (s : State) (x : List Mark) : (s.withMarks x).port = s.port := rfl
@[simp] theorem State.withMarks_walker (s : State) (x : List Mark) : (s.withMarks x).walker = s.walker := rfl
@[simp] theorem State.withMarks_cues (s : State) (x : List Mark) : (s.withMarks x).cues = s.cues := rfl
@[simp] theorem State.withMarks_link (s : State) (x : List Mark) : (s.withMarks x).link = s.link := rfl
@[simp] theorem State.withMarks_notices (s : State) (x : List Mark) : (s.withMarks x).notices = s.notices := rfl
@[simp] theorem State.withMarks_pending (s : State) (x : List Mark) : (s.withMarks x).pending = s.pending := rfl
@[simp] theorem State.withMarks_same (s : State) : s.withMarks s.marks = s := rfl
@[simp] theorem State.withMarks_twice (s : State) (x y : List Mark) : (s.withMarks x).withMarks y = s.withMarks y := rfl

/-! ### Due -/
@[simp] theorem State.withDue_run (s : State) (x : SecondMarks) : (s.withDue x).run = s.run := rfl
@[simp] theorem State.withDue_osc (s : State) (x : SecondMarks) : (s.withDue x).osc = s.osc := rfl
@[simp] theorem State.withDue_draws (s : State) (x : SecondMarks) : (s.withDue x).draws = s.draws := rfl
@[simp] theorem State.withDue_choices (s : State) (x : SecondMarks) : (s.withDue x).choices = s.choices := rfl
@[simp] theorem State.withDue_sup (s : State) (x : SecondMarks) : (s.withDue x).sup = s.sup := rfl
@[simp] theorem State.withDue_settings (s : State) (x : SecondMarks) : (s.withDue x).settings = s.settings := rfl
@[simp] theorem State.withDue_clock (s : State) (x : SecondMarks) : (s.withDue x).clock = s.clock := rfl
@[simp] theorem State.withDue_marks (s : State) (x : SecondMarks) : (s.withDue x).marks = s.marks := rfl
@[simp] theorem State.withDue_due (s : State) (x : SecondMarks) : (s.withDue x).due = x := rfl
@[simp] theorem State.withDue_events (s : State) (x : SecondMarks) : (s.withDue x).events = s.events := rfl
@[simp] theorem State.withDue_products (s : State) (x : SecondMarks) : (s.withDue x).products = s.products := rfl
@[simp] theorem State.withDue_regions (s : State) (x : SecondMarks) : (s.withDue x).regions = s.regions := rfl
@[simp] theorem State.withDue_store (s : State) (x : SecondMarks) : (s.withDue x).store = s.store := rfl
@[simp] theorem State.withDue_pacing (s : State) (x : SecondMarks) : (s.withDue x).pacing = s.pacing := rfl
@[simp] theorem State.withDue_arbiter (s : State) (x : SecondMarks) : (s.withDue x).arbiter = s.arbiter := rfl
@[simp] theorem State.withDue_port (s : State) (x : SecondMarks) : (s.withDue x).port = s.port := rfl
@[simp] theorem State.withDue_walker (s : State) (x : SecondMarks) : (s.withDue x).walker = s.walker := rfl
@[simp] theorem State.withDue_cues (s : State) (x : SecondMarks) : (s.withDue x).cues = s.cues := rfl
@[simp] theorem State.withDue_link (s : State) (x : SecondMarks) : (s.withDue x).link = s.link := rfl
@[simp] theorem State.withDue_notices (s : State) (x : SecondMarks) : (s.withDue x).notices = s.notices := rfl
@[simp] theorem State.withDue_pending (s : State) (x : SecondMarks) : (s.withDue x).pending = s.pending := rfl
@[simp] theorem State.withDue_same (s : State) : s.withDue s.due = s := rfl
@[simp] theorem State.withDue_twice (s : State) (x y : SecondMarks) : (s.withDue x).withDue y = s.withDue y := rfl

/-! ### Events -/
@[simp] theorem State.withEvents_run (s : State) (x : List (Option EventEntry)) : (s.withEvents x).run = s.run := rfl
@[simp] theorem State.withEvents_osc (s : State) (x : List (Option EventEntry)) : (s.withEvents x).osc = s.osc := rfl
@[simp] theorem State.withEvents_draws (s : State) (x : List (Option EventEntry)) : (s.withEvents x).draws = s.draws := rfl
@[simp] theorem State.withEvents_choices (s : State) (x : List (Option EventEntry)) : (s.withEvents x).choices = s.choices := rfl
@[simp] theorem State.withEvents_sup (s : State) (x : List (Option EventEntry)) : (s.withEvents x).sup = s.sup := rfl
@[simp] theorem State.withEvents_settings (s : State) (x : List (Option EventEntry)) : (s.withEvents x).settings = s.settings := rfl
@[simp] theorem State.withEvents_clock (s : State) (x : List (Option EventEntry)) : (s.withEvents x).clock = s.clock := rfl
@[simp] theorem State.withEvents_marks (s : State) (x : List (Option EventEntry)) : (s.withEvents x).marks = s.marks := rfl
@[simp] theorem State.withEvents_due (s : State) (x : List (Option EventEntry)) : (s.withEvents x).due = s.due := rfl
@[simp] theorem State.withEvents_events (s : State) (x : List (Option EventEntry)) : (s.withEvents x).events = x := rfl
@[simp] theorem State.withEvents_products (s : State) (x : List (Option EventEntry)) : (s.withEvents x).products = s.products := rfl
@[simp] theorem State.withEvents_regions (s : State) (x : List (Option EventEntry)) : (s.withEvents x).regions = s.regions := rfl
@[simp] theorem State.withEvents_store (s : State) (x : List (Option EventEntry)) : (s.withEvents x).store = s.store := rfl
@[simp] theorem State.withEvents_pacing (s : State) (x : List (Option EventEntry)) : (s.withEvents x).pacing = s.pacing := rfl
@[simp] theorem State.withEvents_arbiter (s : State) (x : List (Option EventEntry)) : (s.withEvents x).arbiter = s.arbiter := rfl
@[simp] theorem State.withEvents_port (s : State) (x : List (Option EventEntry)) : (s.withEvents x).port = s.port := rfl
@[simp] theorem State.withEvents_walker (s : State) (x : List (Option EventEntry)) : (s.withEvents x).walker = s.walker := rfl
@[simp] theorem State.withEvents_cues (s : State) (x : List (Option EventEntry)) : (s.withEvents x).cues = s.cues := rfl
@[simp] theorem State.withEvents_link (s : State) (x : List (Option EventEntry)) : (s.withEvents x).link = s.link := rfl
@[simp] theorem State.withEvents_notices (s : State) (x : List (Option EventEntry)) : (s.withEvents x).notices = s.notices := rfl
@[simp] theorem State.withEvents_pending (s : State) (x : List (Option EventEntry)) : (s.withEvents x).pending = s.pending := rfl
@[simp] theorem State.withEvents_same (s : State) : s.withEvents s.events = s := rfl
@[simp] theorem State.withEvents_twice (s : State) (x y : List (Option EventEntry)) : (s.withEvents x).withEvents y = s.withEvents y := rfl

/-! ### Products -/
@[simp] theorem State.withProducts_run (s : State) (x : List ProductEntry) : (s.withProducts x).run = s.run := rfl
@[simp] theorem State.withProducts_osc (s : State) (x : List ProductEntry) : (s.withProducts x).osc = s.osc := rfl
@[simp] theorem State.withProducts_draws (s : State) (x : List ProductEntry) : (s.withProducts x).draws = s.draws := rfl
@[simp] theorem State.withProducts_choices (s : State) (x : List ProductEntry) : (s.withProducts x).choices = s.choices := rfl
@[simp] theorem State.withProducts_sup (s : State) (x : List ProductEntry) : (s.withProducts x).sup = s.sup := rfl
@[simp] theorem State.withProducts_settings (s : State) (x : List ProductEntry) : (s.withProducts x).settings = s.settings := rfl
@[simp] theorem State.withProducts_clock (s : State) (x : List ProductEntry) : (s.withProducts x).clock = s.clock := rfl
@[simp] theorem State.withProducts_marks (s : State) (x : List ProductEntry) : (s.withProducts x).marks = s.marks := rfl
@[simp] theorem State.withProducts_due (s : State) (x : List ProductEntry) : (s.withProducts x).due = s.due := rfl
@[simp] theorem State.withProducts_events (s : State) (x : List ProductEntry) : (s.withProducts x).events = s.events := rfl
@[simp] theorem State.withProducts_products (s : State) (x : List ProductEntry) : (s.withProducts x).products = x := rfl
@[simp] theorem State.withProducts_regions (s : State) (x : List ProductEntry) : (s.withProducts x).regions = s.regions := rfl
@[simp] theorem State.withProducts_store (s : State) (x : List ProductEntry) : (s.withProducts x).store = s.store := rfl
@[simp] theorem State.withProducts_pacing (s : State) (x : List ProductEntry) : (s.withProducts x).pacing = s.pacing := rfl
@[simp] theorem State.withProducts_arbiter (s : State) (x : List ProductEntry) : (s.withProducts x).arbiter = s.arbiter := rfl
@[simp] theorem State.withProducts_port (s : State) (x : List ProductEntry) : (s.withProducts x).port = s.port := rfl
@[simp] theorem State.withProducts_walker (s : State) (x : List ProductEntry) : (s.withProducts x).walker = s.walker := rfl
@[simp] theorem State.withProducts_cues (s : State) (x : List ProductEntry) : (s.withProducts x).cues = s.cues := rfl
@[simp] theorem State.withProducts_link (s : State) (x : List ProductEntry) : (s.withProducts x).link = s.link := rfl
@[simp] theorem State.withProducts_notices (s : State) (x : List ProductEntry) : (s.withProducts x).notices = s.notices := rfl
@[simp] theorem State.withProducts_pending (s : State) (x : List ProductEntry) : (s.withProducts x).pending = s.pending := rfl
@[simp] theorem State.withProducts_same (s : State) : s.withProducts s.products = s := rfl
@[simp] theorem State.withProducts_twice (s : State) (x y : List ProductEntry) : (s.withProducts x).withProducts y = s.withProducts y := rfl

/-! ### Regions -/
@[simp] theorem State.withRegions_run (s : State) (x : List (Option RegionRule)) : (s.withRegions x).run = s.run := rfl
@[simp] theorem State.withRegions_osc (s : State) (x : List (Option RegionRule)) : (s.withRegions x).osc = s.osc := rfl
@[simp] theorem State.withRegions_draws (s : State) (x : List (Option RegionRule)) : (s.withRegions x).draws = s.draws := rfl
@[simp] theorem State.withRegions_choices (s : State) (x : List (Option RegionRule)) : (s.withRegions x).choices = s.choices := rfl
@[simp] theorem State.withRegions_sup (s : State) (x : List (Option RegionRule)) : (s.withRegions x).sup = s.sup := rfl
@[simp] theorem State.withRegions_settings (s : State) (x : List (Option RegionRule)) : (s.withRegions x).settings = s.settings := rfl
@[simp] theorem State.withRegions_clock (s : State) (x : List (Option RegionRule)) : (s.withRegions x).clock = s.clock := rfl
@[simp] theorem State.withRegions_marks (s : State) (x : List (Option RegionRule)) : (s.withRegions x).marks = s.marks := rfl
@[simp] theorem State.withRegions_due (s : State) (x : List (Option RegionRule)) : (s.withRegions x).due = s.due := rfl
@[simp] theorem State.withRegions_events (s : State) (x : List (Option RegionRule)) : (s.withRegions x).events = s.events := rfl
@[simp] theorem State.withRegions_products (s : State) (x : List (Option RegionRule)) : (s.withRegions x).products = s.products := rfl
@[simp] theorem State.withRegions_regions (s : State) (x : List (Option RegionRule)) : (s.withRegions x).regions = x := rfl
@[simp] theorem State.withRegions_store (s : State) (x : List (Option RegionRule)) : (s.withRegions x).store = s.store := rfl
@[simp] theorem State.withRegions_pacing (s : State) (x : List (Option RegionRule)) : (s.withRegions x).pacing = s.pacing := rfl
@[simp] theorem State.withRegions_arbiter (s : State) (x : List (Option RegionRule)) : (s.withRegions x).arbiter = s.arbiter := rfl
@[simp] theorem State.withRegions_port (s : State) (x : List (Option RegionRule)) : (s.withRegions x).port = s.port := rfl
@[simp] theorem State.withRegions_walker (s : State) (x : List (Option RegionRule)) : (s.withRegions x).walker = s.walker := rfl
@[simp] theorem State.withRegions_cues (s : State) (x : List (Option RegionRule)) : (s.withRegions x).cues = s.cues := rfl
@[simp] theorem State.withRegions_link (s : State) (x : List (Option RegionRule)) : (s.withRegions x).link = s.link := rfl
@[simp] theorem State.withRegions_notices (s : State) (x : List (Option RegionRule)) : (s.withRegions x).notices = s.notices := rfl
@[simp] theorem State.withRegions_pending (s : State) (x : List (Option RegionRule)) : (s.withRegions x).pending = s.pending := rfl
@[simp] theorem State.withRegions_same (s : State) : s.withRegions s.regions = s := rfl
@[simp] theorem State.withRegions_twice (s : State) (x y : List (Option RegionRule)) : (s.withRegions x).withRegions y = s.withRegions y := rfl

/-! ### Store -/
@[simp] theorem State.withStore_run (s : State) (x : GrantStore) : (s.withStore x).run = s.run := rfl
@[simp] theorem State.withStore_osc (s : State) (x : GrantStore) : (s.withStore x).osc = s.osc := rfl
@[simp] theorem State.withStore_draws (s : State) (x : GrantStore) : (s.withStore x).draws = s.draws := rfl
@[simp] theorem State.withStore_choices (s : State) (x : GrantStore) : (s.withStore x).choices = s.choices := rfl
@[simp] theorem State.withStore_sup (s : State) (x : GrantStore) : (s.withStore x).sup = s.sup := rfl
@[simp] theorem State.withStore_settings (s : State) (x : GrantStore) : (s.withStore x).settings = s.settings := rfl
@[simp] theorem State.withStore_clock (s : State) (x : GrantStore) : (s.withStore x).clock = s.clock := rfl
@[simp] theorem State.withStore_marks (s : State) (x : GrantStore) : (s.withStore x).marks = s.marks := rfl
@[simp] theorem State.withStore_due (s : State) (x : GrantStore) : (s.withStore x).due = s.due := rfl
@[simp] theorem State.withStore_events (s : State) (x : GrantStore) : (s.withStore x).events = s.events := rfl
@[simp] theorem State.withStore_products (s : State) (x : GrantStore) : (s.withStore x).products = s.products := rfl
@[simp] theorem State.withStore_regions (s : State) (x : GrantStore) : (s.withStore x).regions = s.regions := rfl
@[simp] theorem State.withStore_store (s : State) (x : GrantStore) : (s.withStore x).store = x := rfl
@[simp] theorem State.withStore_pacing (s : State) (x : GrantStore) : (s.withStore x).pacing = s.pacing := rfl
@[simp] theorem State.withStore_arbiter (s : State) (x : GrantStore) : (s.withStore x).arbiter = s.arbiter := rfl
@[simp] theorem State.withStore_port (s : State) (x : GrantStore) : (s.withStore x).port = s.port := rfl
@[simp] theorem State.withStore_walker (s : State) (x : GrantStore) : (s.withStore x).walker = s.walker := rfl
@[simp] theorem State.withStore_cues (s : State) (x : GrantStore) : (s.withStore x).cues = s.cues := rfl
@[simp] theorem State.withStore_link (s : State) (x : GrantStore) : (s.withStore x).link = s.link := rfl
@[simp] theorem State.withStore_notices (s : State) (x : GrantStore) : (s.withStore x).notices = s.notices := rfl
@[simp] theorem State.withStore_pending (s : State) (x : GrantStore) : (s.withStore x).pending = s.pending := rfl
@[simp] theorem State.withStore_same (s : State) : s.withStore s.store = s := rfl
@[simp] theorem State.withStore_twice (s : State) (x y : GrantStore) : (s.withStore x).withStore y = s.withStore y := rfl

/-! ### Pacing -/
@[simp] theorem State.withPacing_run (s : State) (x : Pacing) : (s.withPacing x).run = s.run := rfl
@[simp] theorem State.withPacing_osc (s : State) (x : Pacing) : (s.withPacing x).osc = s.osc := rfl
@[simp] theorem State.withPacing_draws (s : State) (x : Pacing) : (s.withPacing x).draws = s.draws := rfl
@[simp] theorem State.withPacing_choices (s : State) (x : Pacing) : (s.withPacing x).choices = s.choices := rfl
@[simp] theorem State.withPacing_sup (s : State) (x : Pacing) : (s.withPacing x).sup = s.sup := rfl
@[simp] theorem State.withPacing_settings (s : State) (x : Pacing) : (s.withPacing x).settings = s.settings := rfl
@[simp] theorem State.withPacing_clock (s : State) (x : Pacing) : (s.withPacing x).clock = s.clock := rfl
@[simp] theorem State.withPacing_marks (s : State) (x : Pacing) : (s.withPacing x).marks = s.marks := rfl
@[simp] theorem State.withPacing_due (s : State) (x : Pacing) : (s.withPacing x).due = s.due := rfl
@[simp] theorem State.withPacing_events (s : State) (x : Pacing) : (s.withPacing x).events = s.events := rfl
@[simp] theorem State.withPacing_products (s : State) (x : Pacing) : (s.withPacing x).products = s.products := rfl
@[simp] theorem State.withPacing_regions (s : State) (x : Pacing) : (s.withPacing x).regions = s.regions := rfl
@[simp] theorem State.withPacing_store (s : State) (x : Pacing) : (s.withPacing x).store = s.store := rfl
@[simp] theorem State.withPacing_pacing (s : State) (x : Pacing) : (s.withPacing x).pacing = x := rfl
@[simp] theorem State.withPacing_arbiter (s : State) (x : Pacing) : (s.withPacing x).arbiter = s.arbiter := rfl
@[simp] theorem State.withPacing_port (s : State) (x : Pacing) : (s.withPacing x).port = s.port := rfl
@[simp] theorem State.withPacing_walker (s : State) (x : Pacing) : (s.withPacing x).walker = s.walker := rfl
@[simp] theorem State.withPacing_cues (s : State) (x : Pacing) : (s.withPacing x).cues = s.cues := rfl
@[simp] theorem State.withPacing_link (s : State) (x : Pacing) : (s.withPacing x).link = s.link := rfl
@[simp] theorem State.withPacing_notices (s : State) (x : Pacing) : (s.withPacing x).notices = s.notices := rfl
@[simp] theorem State.withPacing_pending (s : State) (x : Pacing) : (s.withPacing x).pending = s.pending := rfl
@[simp] theorem State.withPacing_same (s : State) : s.withPacing s.pacing = s := rfl
@[simp] theorem State.withPacing_twice (s : State) (x y : Pacing) : (s.withPacing x).withPacing y = s.withPacing y := rfl

/-! ### Arbiter -/
@[simp] theorem State.withArbiter_run (s : State) (x : Arbiter) : (s.withArbiter x).run = s.run := rfl
@[simp] theorem State.withArbiter_osc (s : State) (x : Arbiter) : (s.withArbiter x).osc = s.osc := rfl
@[simp] theorem State.withArbiter_draws (s : State) (x : Arbiter) : (s.withArbiter x).draws = s.draws := rfl
@[simp] theorem State.withArbiter_choices (s : State) (x : Arbiter) : (s.withArbiter x).choices = s.choices := rfl
@[simp] theorem State.withArbiter_sup (s : State) (x : Arbiter) : (s.withArbiter x).sup = s.sup := rfl
@[simp] theorem State.withArbiter_settings (s : State) (x : Arbiter) : (s.withArbiter x).settings = s.settings := rfl
@[simp] theorem State.withArbiter_clock (s : State) (x : Arbiter) : (s.withArbiter x).clock = s.clock := rfl
@[simp] theorem State.withArbiter_marks (s : State) (x : Arbiter) : (s.withArbiter x).marks = s.marks := rfl
@[simp] theorem State.withArbiter_due (s : State) (x : Arbiter) : (s.withArbiter x).due = s.due := rfl
@[simp] theorem State.withArbiter_events (s : State) (x : Arbiter) : (s.withArbiter x).events = s.events := rfl
@[simp] theorem State.withArbiter_products (s : State) (x : Arbiter) : (s.withArbiter x).products = s.products := rfl
@[simp] theorem State.withArbiter_regions (s : State) (x : Arbiter) : (s.withArbiter x).regions = s.regions := rfl
@[simp] theorem State.withArbiter_store (s : State) (x : Arbiter) : (s.withArbiter x).store = s.store := rfl
@[simp] theorem State.withArbiter_pacing (s : State) (x : Arbiter) : (s.withArbiter x).pacing = s.pacing := rfl
@[simp] theorem State.withArbiter_arbiter (s : State) (x : Arbiter) : (s.withArbiter x).arbiter = x := rfl
@[simp] theorem State.withArbiter_port (s : State) (x : Arbiter) : (s.withArbiter x).port = s.port := rfl
@[simp] theorem State.withArbiter_walker (s : State) (x : Arbiter) : (s.withArbiter x).walker = s.walker := rfl
@[simp] theorem State.withArbiter_cues (s : State) (x : Arbiter) : (s.withArbiter x).cues = s.cues := rfl
@[simp] theorem State.withArbiter_link (s : State) (x : Arbiter) : (s.withArbiter x).link = s.link := rfl
@[simp] theorem State.withArbiter_notices (s : State) (x : Arbiter) : (s.withArbiter x).notices = s.notices := rfl
@[simp] theorem State.withArbiter_pending (s : State) (x : Arbiter) : (s.withArbiter x).pending = s.pending := rfl
@[simp] theorem State.withArbiter_same (s : State) : s.withArbiter s.arbiter = s := rfl
@[simp] theorem State.withArbiter_twice (s : State) (x y : Arbiter) : (s.withArbiter x).withArbiter y = s.withArbiter y := rfl

/-! ### Port -/
@[simp] theorem State.withPort_run (s : State) (x : Port) : (s.withPort x).run = s.run := rfl
@[simp] theorem State.withPort_osc (s : State) (x : Port) : (s.withPort x).osc = s.osc := rfl
@[simp] theorem State.withPort_draws (s : State) (x : Port) : (s.withPort x).draws = s.draws := rfl
@[simp] theorem State.withPort_choices (s : State) (x : Port) : (s.withPort x).choices = s.choices := rfl
@[simp] theorem State.withPort_sup (s : State) (x : Port) : (s.withPort x).sup = s.sup := rfl
@[simp] theorem State.withPort_settings (s : State) (x : Port) : (s.withPort x).settings = s.settings := rfl
@[simp] theorem State.withPort_clock (s : State) (x : Port) : (s.withPort x).clock = s.clock := rfl
@[simp] theorem State.withPort_marks (s : State) (x : Port) : (s.withPort x).marks = s.marks := rfl
@[simp] theorem State.withPort_due (s : State) (x : Port) : (s.withPort x).due = s.due := rfl
@[simp] theorem State.withPort_events (s : State) (x : Port) : (s.withPort x).events = s.events := rfl
@[simp] theorem State.withPort_products (s : State) (x : Port) : (s.withPort x).products = s.products := rfl
@[simp] theorem State.withPort_regions (s : State) (x : Port) : (s.withPort x).regions = s.regions := rfl
@[simp] theorem State.withPort_store (s : State) (x : Port) : (s.withPort x).store = s.store := rfl
@[simp] theorem State.withPort_pacing (s : State) (x : Port) : (s.withPort x).pacing = s.pacing := rfl
@[simp] theorem State.withPort_arbiter (s : State) (x : Port) : (s.withPort x).arbiter = s.arbiter := rfl
@[simp] theorem State.withPort_port (s : State) (x : Port) : (s.withPort x).port = x := rfl
@[simp] theorem State.withPort_walker (s : State) (x : Port) : (s.withPort x).walker = s.walker := rfl
@[simp] theorem State.withPort_cues (s : State) (x : Port) : (s.withPort x).cues = s.cues := rfl
@[simp] theorem State.withPort_link (s : State) (x : Port) : (s.withPort x).link = s.link := rfl
@[simp] theorem State.withPort_notices (s : State) (x : Port) : (s.withPort x).notices = s.notices := rfl
@[simp] theorem State.withPort_pending (s : State) (x : Port) : (s.withPort x).pending = s.pending := rfl
@[simp] theorem State.withPort_same (s : State) : s.withPort s.port = s := rfl
@[simp] theorem State.withPort_twice (s : State) (x y : Port) : (s.withPort x).withPort y = s.withPort y := rfl

/-! ### Walker -/
@[simp] theorem State.withWalker_run (s : State) (x : Walker) : (s.withWalker x).run = s.run := rfl
@[simp] theorem State.withWalker_osc (s : State) (x : Walker) : (s.withWalker x).osc = s.osc := rfl
@[simp] theorem State.withWalker_draws (s : State) (x : Walker) : (s.withWalker x).draws = s.draws := rfl
@[simp] theorem State.withWalker_choices (s : State) (x : Walker) : (s.withWalker x).choices = s.choices := rfl
@[simp] theorem State.withWalker_sup (s : State) (x : Walker) : (s.withWalker x).sup = s.sup := rfl
@[simp] theorem State.withWalker_settings (s : State) (x : Walker) : (s.withWalker x).settings = s.settings := rfl
@[simp] theorem State.withWalker_clock (s : State) (x : Walker) : (s.withWalker x).clock = s.clock := rfl
@[simp] theorem State.withWalker_marks (s : State) (x : Walker) : (s.withWalker x).marks = s.marks := rfl
@[simp] theorem State.withWalker_due (s : State) (x : Walker) : (s.withWalker x).due = s.due := rfl
@[simp] theorem State.withWalker_events (s : State) (x : Walker) : (s.withWalker x).events = s.events := rfl
@[simp] theorem State.withWalker_products (s : State) (x : Walker) : (s.withWalker x).products = s.products := rfl
@[simp] theorem State.withWalker_regions (s : State) (x : Walker) : (s.withWalker x).regions = s.regions := rfl
@[simp] theorem State.withWalker_store (s : State) (x : Walker) : (s.withWalker x).store = s.store := rfl
@[simp] theorem State.withWalker_pacing (s : State) (x : Walker) : (s.withWalker x).pacing = s.pacing := rfl
@[simp] theorem State.withWalker_arbiter (s : State) (x : Walker) : (s.withWalker x).arbiter = s.arbiter := rfl
@[simp] theorem State.withWalker_port (s : State) (x : Walker) : (s.withWalker x).port = s.port := rfl
@[simp] theorem State.withWalker_walker (s : State) (x : Walker) : (s.withWalker x).walker = x := rfl
@[simp] theorem State.withWalker_cues (s : State) (x : Walker) : (s.withWalker x).cues = s.cues := rfl
@[simp] theorem State.withWalker_link (s : State) (x : Walker) : (s.withWalker x).link = s.link := rfl
@[simp] theorem State.withWalker_notices (s : State) (x : Walker) : (s.withWalker x).notices = s.notices := rfl
@[simp] theorem State.withWalker_pending (s : State) (x : Walker) : (s.withWalker x).pending = s.pending := rfl
@[simp] theorem State.withWalker_same (s : State) : s.withWalker s.walker = s := rfl
@[simp] theorem State.withWalker_twice (s : State) (x y : Walker) : (s.withWalker x).withWalker y = s.withWalker y := rfl

/-! ### Cues -/
@[simp] theorem State.withCues_run (s : State) (x : CueMonitor) : (s.withCues x).run = s.run := rfl
@[simp] theorem State.withCues_osc (s : State) (x : CueMonitor) : (s.withCues x).osc = s.osc := rfl
@[simp] theorem State.withCues_draws (s : State) (x : CueMonitor) : (s.withCues x).draws = s.draws := rfl
@[simp] theorem State.withCues_choices (s : State) (x : CueMonitor) : (s.withCues x).choices = s.choices := rfl
@[simp] theorem State.withCues_sup (s : State) (x : CueMonitor) : (s.withCues x).sup = s.sup := rfl
@[simp] theorem State.withCues_settings (s : State) (x : CueMonitor) : (s.withCues x).settings = s.settings := rfl
@[simp] theorem State.withCues_clock (s : State) (x : CueMonitor) : (s.withCues x).clock = s.clock := rfl
@[simp] theorem State.withCues_marks (s : State) (x : CueMonitor) : (s.withCues x).marks = s.marks := rfl
@[simp] theorem State.withCues_due (s : State) (x : CueMonitor) : (s.withCues x).due = s.due := rfl
@[simp] theorem State.withCues_events (s : State) (x : CueMonitor) : (s.withCues x).events = s.events := rfl
@[simp] theorem State.withCues_products (s : State) (x : CueMonitor) : (s.withCues x).products = s.products := rfl
@[simp] theorem State.withCues_regions (s : State) (x : CueMonitor) : (s.withCues x).regions = s.regions := rfl
@[simp] theorem State.withCues_store (s : State) (x : CueMonitor) : (s.withCues x).store = s.store := rfl
@[simp] theorem State.withCues_pacing (s : State) (x : CueMonitor) : (s.withCues x).pacing = s.pacing := rfl
@[simp] theorem State.withCues_arbiter (s : State) (x : CueMonitor) : (s.withCues x).arbiter = s.arbiter := rfl
@[simp] theorem State.withCues_port (s : State) (x : CueMonitor) : (s.withCues x).port = s.port := rfl
@[simp] theorem State.withCues_walker (s : State) (x : CueMonitor) : (s.withCues x).walker = s.walker := rfl
@[simp] theorem State.withCues_cues (s : State) (x : CueMonitor) : (s.withCues x).cues = x := rfl
@[simp] theorem State.withCues_link (s : State) (x : CueMonitor) : (s.withCues x).link = s.link := rfl
@[simp] theorem State.withCues_notices (s : State) (x : CueMonitor) : (s.withCues x).notices = s.notices := rfl
@[simp] theorem State.withCues_pending (s : State) (x : CueMonitor) : (s.withCues x).pending = s.pending := rfl
@[simp] theorem State.withCues_same (s : State) : s.withCues s.cues = s := rfl
@[simp] theorem State.withCues_twice (s : State) (x y : CueMonitor) : (s.withCues x).withCues y = s.withCues y := rfl

/-! ### Link -/
@[simp] theorem State.withLink_run (s : State) (x : Link) : (s.withLink x).run = s.run := rfl
@[simp] theorem State.withLink_osc (s : State) (x : Link) : (s.withLink x).osc = s.osc := rfl
@[simp] theorem State.withLink_draws (s : State) (x : Link) : (s.withLink x).draws = s.draws := rfl
@[simp] theorem State.withLink_choices (s : State) (x : Link) : (s.withLink x).choices = s.choices := rfl
@[simp] theorem State.withLink_sup (s : State) (x : Link) : (s.withLink x).sup = s.sup := rfl
@[simp] theorem State.withLink_settings (s : State) (x : Link) : (s.withLink x).settings = s.settings := rfl
@[simp] theorem State.withLink_clock (s : State) (x : Link) : (s.withLink x).clock = s.clock := rfl
@[simp] theorem State.withLink_marks (s : State) (x : Link) : (s.withLink x).marks = s.marks := rfl
@[simp] theorem State.withLink_due (s : State) (x : Link) : (s.withLink x).due = s.due := rfl
@[simp] theorem State.withLink_events (s : State) (x : Link) : (s.withLink x).events = s.events := rfl
@[simp] theorem State.withLink_products (s : State) (x : Link) : (s.withLink x).products = s.products := rfl
@[simp] theorem State.withLink_regions (s : State) (x : Link) : (s.withLink x).regions = s.regions := rfl
@[simp] theorem State.withLink_store (s : State) (x : Link) : (s.withLink x).store = s.store := rfl
@[simp] theorem State.withLink_pacing (s : State) (x : Link) : (s.withLink x).pacing = s.pacing := rfl
@[simp] theorem State.withLink_arbiter (s : State) (x : Link) : (s.withLink x).arbiter = s.arbiter := rfl
@[simp] theorem State.withLink_port (s : State) (x : Link) : (s.withLink x).port = s.port := rfl
@[simp] theorem State.withLink_walker (s : State) (x : Link) : (s.withLink x).walker = s.walker := rfl
@[simp] theorem State.withLink_cues (s : State) (x : Link) : (s.withLink x).cues = s.cues := rfl
@[simp] theorem State.withLink_link (s : State) (x : Link) : (s.withLink x).link = x := rfl
@[simp] theorem State.withLink_notices (s : State) (x : Link) : (s.withLink x).notices = s.notices := rfl
@[simp] theorem State.withLink_pending (s : State) (x : Link) : (s.withLink x).pending = s.pending := rfl
@[simp] theorem State.withLink_same (s : State) : s.withLink s.link = s := rfl
@[simp] theorem State.withLink_twice (s : State) (x y : Link) : (s.withLink x).withLink y = s.withLink y := rfl

/-! ### Notices -/
@[simp] theorem State.withNotices_run (s : State) (x : NoticeQueue) : (s.withNotices x).run = s.run := rfl
@[simp] theorem State.withNotices_osc (s : State) (x : NoticeQueue) : (s.withNotices x).osc = s.osc := rfl
@[simp] theorem State.withNotices_draws (s : State) (x : NoticeQueue) : (s.withNotices x).draws = s.draws := rfl
@[simp] theorem State.withNotices_choices (s : State) (x : NoticeQueue) : (s.withNotices x).choices = s.choices := rfl
@[simp] theorem State.withNotices_sup (s : State) (x : NoticeQueue) : (s.withNotices x).sup = s.sup := rfl
@[simp] theorem State.withNotices_settings (s : State) (x : NoticeQueue) : (s.withNotices x).settings = s.settings := rfl
@[simp] theorem State.withNotices_clock (s : State) (x : NoticeQueue) : (s.withNotices x).clock = s.clock := rfl
@[simp] theorem State.withNotices_marks (s : State) (x : NoticeQueue) : (s.withNotices x).marks = s.marks := rfl
@[simp] theorem State.withNotices_due (s : State) (x : NoticeQueue) : (s.withNotices x).due = s.due := rfl
@[simp] theorem State.withNotices_events (s : State) (x : NoticeQueue) : (s.withNotices x).events = s.events := rfl
@[simp] theorem State.withNotices_products (s : State) (x : NoticeQueue) : (s.withNotices x).products = s.products := rfl
@[simp] theorem State.withNotices_regions (s : State) (x : NoticeQueue) : (s.withNotices x).regions = s.regions := rfl
@[simp] theorem State.withNotices_store (s : State) (x : NoticeQueue) : (s.withNotices x).store = s.store := rfl
@[simp] theorem State.withNotices_pacing (s : State) (x : NoticeQueue) : (s.withNotices x).pacing = s.pacing := rfl
@[simp] theorem State.withNotices_arbiter (s : State) (x : NoticeQueue) : (s.withNotices x).arbiter = s.arbiter := rfl
@[simp] theorem State.withNotices_port (s : State) (x : NoticeQueue) : (s.withNotices x).port = s.port := rfl
@[simp] theorem State.withNotices_walker (s : State) (x : NoticeQueue) : (s.withNotices x).walker = s.walker := rfl
@[simp] theorem State.withNotices_cues (s : State) (x : NoticeQueue) : (s.withNotices x).cues = s.cues := rfl
@[simp] theorem State.withNotices_link (s : State) (x : NoticeQueue) : (s.withNotices x).link = s.link := rfl
@[simp] theorem State.withNotices_notices (s : State) (x : NoticeQueue) : (s.withNotices x).notices = x := rfl
@[simp] theorem State.withNotices_pending (s : State) (x : NoticeQueue) : (s.withNotices x).pending = s.pending := rfl
@[simp] theorem State.withNotices_same (s : State) : s.withNotices s.notices = s := rfl
@[simp] theorem State.withNotices_twice (s : State) (x y : NoticeQueue) : (s.withNotices x).withNotices y = s.withNotices y := rfl

/-! ### Pending -/
@[simp] theorem State.withPending_run (s : State) (x : List Instr) : (s.withPending x).run = s.run := rfl
@[simp] theorem State.withPending_osc (s : State) (x : List Instr) : (s.withPending x).osc = s.osc := rfl
@[simp] theorem State.withPending_draws (s : State) (x : List Instr) : (s.withPending x).draws = s.draws := rfl
@[simp] theorem State.withPending_choices (s : State) (x : List Instr) : (s.withPending x).choices = s.choices := rfl
@[simp] theorem State.withPending_sup (s : State) (x : List Instr) : (s.withPending x).sup = s.sup := rfl
@[simp] theorem State.withPending_settings (s : State) (x : List Instr) : (s.withPending x).settings = s.settings := rfl
@[simp] theorem State.withPending_clock (s : State) (x : List Instr) : (s.withPending x).clock = s.clock := rfl
@[simp] theorem State.withPending_marks (s : State) (x : List Instr) : (s.withPending x).marks = s.marks := rfl
@[simp] theorem State.withPending_due (s : State) (x : List Instr) : (s.withPending x).due = s.due := rfl
@[simp] theorem State.withPending_events (s : State) (x : List Instr) : (s.withPending x).events = s.events := rfl
@[simp] theorem State.withPending_products (s : State) (x : List Instr) : (s.withPending x).products = s.products := rfl
@[simp] theorem State.withPending_regions (s : State) (x : List Instr) : (s.withPending x).regions = s.regions := rfl
@[simp] theorem State.withPending_store (s : State) (x : List Instr) : (s.withPending x).store = s.store := rfl
@[simp] theorem State.withPending_pacing (s : State) (x : List Instr) : (s.withPending x).pacing = s.pacing := rfl
@[simp] theorem State.withPending_arbiter (s : State) (x : List Instr) : (s.withPending x).arbiter = s.arbiter := rfl
@[simp] theorem State.withPending_port (s : State) (x : List Instr) : (s.withPending x).port = s.port := rfl
@[simp] theorem State.withPending_walker (s : State) (x : List Instr) : (s.withPending x).walker = s.walker := rfl
@[simp] theorem State.withPending_cues (s : State) (x : List Instr) : (s.withPending x).cues = s.cues := rfl
@[simp] theorem State.withPending_link (s : State) (x : List Instr) : (s.withPending x).link = s.link := rfl
@[simp] theorem State.withPending_notices (s : State) (x : List Instr) : (s.withPending x).notices = s.notices := rfl
@[simp] theorem State.withPending_pending (s : State) (x : List Instr) : (s.withPending x).pending = x := rfl
@[simp] theorem State.withPending_same (s : State) : s.withPending s.pending = s := rfl
@[simp] theorem State.withPending_twice (s : State) (x y : List Instr) : (s.withPending x).withPending y = s.withPending y := rfl

end Sys2Proof.Machine
end

