-- ==== Sys2Proof/Laws/Ops.lean ====
section
/-! SUPPORT. What the operations shared by several commands leave unchanged. -/

namespace Sys2Proof.Machine

@[simp] theorem State.post_frame (s : State) (k : NoticeKind) (u : Subject) (v : NoticeValue) :
    (s.post k u v).run = s.run ∧
    (s.post k u v).osc = s.osc ∧
    (s.post k u v).draws = s.draws ∧
    (s.post k u v).choices = s.choices ∧
    (s.post k u v).sup = s.sup ∧
    (s.post k u v).settings = s.settings ∧
    (s.post k u v).clock = s.clock ∧
    (s.post k u v).marks = s.marks ∧
    (s.post k u v).due = s.due ∧
    (s.post k u v).events = s.events ∧
    (s.post k u v).products = s.products ∧
    (s.post k u v).regions = s.regions ∧
    (s.post k u v).store = s.store ∧
    (s.post k u v).pacing = s.pacing ∧
    (s.post k u v).arbiter = s.arbiter ∧
    (s.post k u v).port = s.port ∧
    (s.post k u v).walker = s.walker ∧
    (s.post k u v).cues = s.cues ∧
    (s.post k u v).link = s.link ∧
    (s.post k u v).pending = s.pending := by
  and_intros <;> (unfold State.post; (try dsimp only); (repeat' split) <;> simp)

@[simp] theorem State.raiseSecondMark_frame (s : State) :
    s.raiseSecondMark.run = s.run ∧
    s.raiseSecondMark.osc = s.osc ∧
    s.raiseSecondMark.draws = s.draws ∧
    s.raiseSecondMark.choices = s.choices ∧
    s.raiseSecondMark.sup = s.sup ∧
    s.raiseSecondMark.settings = s.settings ∧
    s.raiseSecondMark.clock = s.clock ∧
    s.raiseSecondMark.marks = s.marks ∧
    s.raiseSecondMark.events = s.events ∧
    s.raiseSecondMark.products = s.products ∧
    s.raiseSecondMark.regions = s.regions ∧
    s.raiseSecondMark.store = s.store ∧
    s.raiseSecondMark.pacing = s.pacing ∧
    s.raiseSecondMark.arbiter = s.arbiter ∧
    s.raiseSecondMark.port = s.port ∧
    s.raiseSecondMark.walker = s.walker ∧
    s.raiseSecondMark.cues = s.cues ∧
    s.raiseSecondMark.link = s.link ∧
    s.raiseSecondMark.notices = s.notices ∧
    s.raiseSecondMark.pending = s.pending := by
  and_intros <;> (unfold State.raiseSecondMark; (try dsimp only); (repeat' split) <;> simp)

@[simp] theorem State.advanceSecond_frame (s : State) :
    s.advanceSecond.run = s.run ∧
    s.advanceSecond.osc = s.osc ∧
    s.advanceSecond.draws = s.draws ∧
    s.advanceSecond.choices = s.choices ∧
    s.advanceSecond.sup = s.sup ∧
    s.advanceSecond.settings = s.settings ∧
    s.advanceSecond.marks = s.marks ∧
    s.advanceSecond.events = s.events ∧
    s.advanceSecond.products = s.products ∧
    s.advanceSecond.regions = s.regions ∧
    s.advanceSecond.store = s.store ∧
    s.advanceSecond.pacing = s.pacing ∧
    s.advanceSecond.arbiter = s.arbiter ∧
    s.advanceSecond.port = s.port ∧
    s.advanceSecond.walker = s.walker ∧
    s.advanceSecond.cues = s.cues ∧
    s.advanceSecond.link = s.link ∧
    s.advanceSecond.notices = s.notices ∧
    s.advanceSecond.pending = s.pending := by
  and_intros <;> (unfold State.advanceSecond; (try dsimp only); (repeat' split) <;> simp)

@[simp] theorem State.requestJob_frame (s : State) (k : JobKind) (p : BitVec 48) :
    (s.requestJob k p).run = s.run ∧
    (s.requestJob k p).osc = s.osc ∧
    (s.requestJob k p).draws = s.draws ∧
    (s.requestJob k p).choices = s.choices ∧
    (s.requestJob k p).sup = s.sup ∧
    (s.requestJob k p).settings = s.settings ∧
    (s.requestJob k p).clock = s.clock ∧
    (s.requestJob k p).marks = s.marks ∧
    (s.requestJob k p).due = s.due ∧
    (s.requestJob k p).events = s.events ∧
    (s.requestJob k p).products = s.products ∧
    (s.requestJob k p).regions = s.regions ∧
    (s.requestJob k p).store = s.store ∧
    (s.requestJob k p).pacing = s.pacing ∧
    (s.requestJob k p).arbiter = s.arbiter ∧
    (s.requestJob k p).port = s.port ∧
    (s.requestJob k p).cues = s.cues ∧
    (s.requestJob k p).link = s.link ∧
    (s.requestJob k p).notices = s.notices ∧
    (s.requestJob k p).pending = s.pending := by
  and_intros <;> (unfold State.requestJob; (try dsimp only); (repeat' split) <;> simp)

@[simp] theorem State.requestJobs_frame (s : State) (v p e : BitVec 48) :
    (s.requestJobs v p e).run = s.run ∧
    (s.requestJobs v p e).osc = s.osc ∧
    (s.requestJobs v p e).draws = s.draws ∧
    (s.requestJobs v p e).sup = s.sup ∧
    (s.requestJobs v p e).settings = s.settings ∧
    (s.requestJobs v p e).clock = s.clock ∧
    (s.requestJobs v p e).marks = s.marks ∧
    (s.requestJobs v p e).due = s.due ∧
    (s.requestJobs v p e).events = s.events ∧
    (s.requestJobs v p e).products = s.products ∧
    (s.requestJobs v p e).regions = s.regions ∧
    (s.requestJobs v p e).store = s.store ∧
    (s.requestJobs v p e).pacing = s.pacing ∧
    (s.requestJobs v p e).arbiter = s.arbiter ∧
    (s.requestJobs v p e).port = s.port ∧
    (s.requestJobs v p e).cues = s.cues ∧
    (s.requestJobs v p e).link = s.link ∧
    (s.requestJobs v p e).notices = s.notices ∧
    (s.requestJobs v p e).pending = s.pending := by
  and_intros <;> (unfold State.requestJobs; (try dsimp only); (repeat' split) <;> simp)

@[simp] theorem State.reportEvent_frame (s : State) (i : Nat) :
    (s.reportEvent i).run = s.run ∧
    (s.reportEvent i).osc = s.osc ∧
    (s.reportEvent i).draws = s.draws ∧
    (s.reportEvent i).sup = s.sup ∧
    (s.reportEvent i).settings = s.settings ∧
    (s.reportEvent i).clock = s.clock ∧
    (s.reportEvent i).marks = s.marks ∧
    (s.reportEvent i).due = s.due ∧
    (s.reportEvent i).events = s.events ∧
    (s.reportEvent i).regions = s.regions ∧
    (s.reportEvent i).store = s.store ∧
    (s.reportEvent i).pacing = s.pacing ∧
    (s.reportEvent i).arbiter = s.arbiter ∧
    (s.reportEvent i).port = s.port ∧
    (s.reportEvent i).cues = s.cues ∧
    (s.reportEvent i).link = s.link ∧
    (s.reportEvent i).notices = s.notices ∧
    (s.reportEvent i).pending = s.pending := by
  and_intros <;> (unfold State.reportEvent; (try dsimp only); (repeat' split) <;> simp)

@[simp] theorem State.placeMark_frame (s : State) (i : Nat) :
    (s.placeMark i).run = s.run ∧
    (s.placeMark i).osc = s.osc ∧
    (s.placeMark i).draws = s.draws ∧
    (s.placeMark i).choices = s.choices ∧
    (s.placeMark i).sup = s.sup ∧
    (s.placeMark i).settings = s.settings ∧
    (s.placeMark i).clock = s.clock ∧
    (s.placeMark i).due = s.due ∧
    (s.placeMark i).events = s.events ∧
    (s.placeMark i).products = s.products ∧
    (s.placeMark i).regions = s.regions ∧
    (s.placeMark i).store = s.store ∧
    (s.placeMark i).pacing = s.pacing ∧
    (s.placeMark i).arbiter = s.arbiter ∧
    (s.placeMark i).port = s.port ∧
    (s.placeMark i).walker = s.walker ∧
    (s.placeMark i).cues = s.cues ∧
    (s.placeMark i).link = s.link ∧
    (s.placeMark i).notices = s.notices ∧
    (s.placeMark i).pending = s.pending := by
  and_intros <;> (unfold State.placeMark; (try dsimp only); (repeat' split) <;> simp)

@[simp] theorem State.requestAnnouncement_frame (s : State) (i : Nat) :
    (s.requestAnnouncement i).run = s.run ∧
    (s.requestAnnouncement i).osc = s.osc ∧
    (s.requestAnnouncement i).draws = s.draws ∧
    (s.requestAnnouncement i).choices = s.choices ∧
    (s.requestAnnouncement i).sup = s.sup ∧
    (s.requestAnnouncement i).settings = s.settings ∧
    (s.requestAnnouncement i).clock = s.clock ∧
    (s.requestAnnouncement i).marks = s.marks ∧
    (s.requestAnnouncement i).due = s.due ∧
    (s.requestAnnouncement i).events = s.events ∧
    (s.requestAnnouncement i).products = s.products ∧
    (s.requestAnnouncement i).regions = s.regions ∧
    (s.requestAnnouncement i).store = s.store ∧
    (s.requestAnnouncement i).pacing = s.pacing ∧
    (s.requestAnnouncement i).port = s.port ∧
    (s.requestAnnouncement i).walker = s.walker ∧
    (s.requestAnnouncement i).cues = s.cues ∧
    (s.requestAnnouncement i).link = s.link ∧
    (s.requestAnnouncement i).notices = s.notices ∧
    (s.requestAnnouncement i).pending = s.pending := by
  and_intros <;> (unfold State.requestAnnouncement; (try dsimp only); (repeat' split) <;> simp)

@[simp] theorem State.transition_frame (s : State) (i : Nat) (e : EventEntry) (n : Option Nat) (c : Cause) :
    (s.transition i e n c).run = s.run ∧
    (s.transition i e n c).osc = s.osc ∧
    (s.transition i e n c).draws = s.draws ∧
    (s.transition i e n c).sup = s.sup ∧
    (s.transition i e n c).settings = s.settings ∧
    (s.transition i e n c).clock = s.clock ∧
    (s.transition i e n c).due = s.due ∧
    (s.transition i e n c).regions = s.regions ∧
    (s.transition i e n c).store = s.store ∧
    (s.transition i e n c).pacing = s.pacing ∧
    (s.transition i e n c).port = s.port ∧
    (s.transition i e n c).cues = s.cues ∧
    (s.transition i e n c).link = s.link ∧
    (s.transition i e n c).pending = s.pending := by
  unfold State.transition; cases n <;> simp

/-- A transition request that is carried out changes only these blocks. -/
theorem State.requestAction_frame (s : State) (i : Nat) (a : Action) (c : Cause) (sec ms : Nat) (t : State)
    (h : s.requestAction i a c sec ms = some t) :
    t.run = s.run ∧
    t.osc = s.osc ∧
    t.draws = s.draws ∧
    t.sup = s.sup ∧
    t.settings = s.settings ∧
    t.clock = s.clock ∧
    t.due = s.due ∧
    t.regions = s.regions ∧
    t.store = s.store ∧
    t.pacing = s.pacing ∧
    t.port = s.port ∧
    t.cues = s.cues ∧
    t.link = s.link ∧
    t.pending = s.pending := by
  unfold State.requestAction at h
  split at h
  · obtain ⟨x, -, rfl⟩ := Option.map_eq_some_iff.mp h
    simp
  · simp at h

/-- A firing changes only these blocks. -/
theorem State.fireFirst_frame (s : State) (now : Nat) (t : State) (h : s.fireFirst now = some t) :
    t.run = s.run ∧
    t.osc = s.osc ∧
    t.draws = s.draws ∧
    t.sup = s.sup ∧
    t.settings = s.settings ∧
    t.clock = s.clock ∧
    t.due = s.due ∧
    t.regions = s.regions ∧
    t.store = s.store ∧
    t.pacing = s.pacing ∧
    t.port = s.port ∧
    t.cues = s.cues ∧
    t.link = s.link ∧
    t.pending = s.pending := by
  unfold State.fireFirst at h
  split at h
  · simp at h
  · split at h
    · obtain rfl := Option.some.inj h
      rename_i m rest _ _
      cases hr : (s.withMarks rest).requestAction m.event m.kind.action .timer now 0 with
      | none => simp
      | some u => simpa using State.requestAction_frame _ _ _ _ _ _ u hr
    · simp at h

@[simp] theorem State.runPass_frame (n now : Nat) (s : State) :
    (State.runPass n now s).run = s.run ∧
    (State.runPass n now s).osc = s.osc ∧
    (State.runPass n now s).draws = s.draws ∧
    (State.runPass n now s).sup = s.sup ∧
    (State.runPass n now s).settings = s.settings ∧
    (State.runPass n now s).clock = s.clock ∧
    (State.runPass n now s).due = s.due ∧
    (State.runPass n now s).regions = s.regions ∧
    (State.runPass n now s).store = s.store ∧
    (State.runPass n now s).pacing = s.pacing ∧
    (State.runPass n now s).port = s.port ∧
    (State.runPass n now s).cues = s.cues ∧
    (State.runPass n now s).link = s.link ∧
    (State.runPass n now s).pending = s.pending := by
  induction n generalizing s with
  | zero => simp [State.runPass]
  | succ n ih =>
    unfold State.runPass
    split
    next s' h => simp [ih s', State.fireFirst_frame s now s' h]
    next => simp

@[simp] theorem State.firePass_frame (s : State) (now : Nat) :
    (s.firePass now).run = s.run ∧
    (s.firePass now).osc = s.osc ∧
    (s.firePass now).draws = s.draws ∧
    (s.firePass now).sup = s.sup ∧
    (s.firePass now).settings = s.settings ∧
    (s.firePass now).clock = s.clock ∧
    (s.firePass now).due = s.due ∧
    (s.firePass now).regions = s.regions ∧
    (s.firePass now).store = s.store ∧
    (s.firePass now).pacing = s.pacing ∧
    (s.firePass now).port = s.port ∧
    (s.firePass now).cues = s.cues ∧
    (s.firePass now).link = s.link ∧
    (s.firePass now).pending = s.pending := by
  unfold State.firePass; simp

@[simp] theorem State.finishPass_frame (s : State) :
    s.finishPass.run = s.run ∧
    s.finishPass.osc = s.osc ∧
    s.finishPass.draws = s.draws ∧
    s.finishPass.sup = s.sup ∧
    s.finishPass.settings = s.settings ∧
    s.finishPass.clock = s.clock ∧
    s.finishPass.regions = s.regions ∧
    s.finishPass.store = s.store ∧
    s.finishPass.pacing = s.pacing ∧
    s.finishPass.port = s.port ∧
    s.finishPass.cues = s.cues ∧
    s.finishPass.link = s.link ∧
    s.finishPass.pending = s.pending := by
  and_intros <;> (unfold State.finishPass; (try dsimp only); (repeat' split) <;> simp)

@[simp] theorem State.cueRequest_frame (s : State) (n : Nat) (a : Action) (i sec ms : Nat) :
    (s.cueRequest n a i sec ms).run = s.run ∧
    (s.cueRequest n a i sec ms).osc = s.osc ∧
    (s.cueRequest n a i sec ms).draws = s.draws ∧
    (s.cueRequest n a i sec ms).sup = s.sup ∧
    (s.cueRequest n a i sec ms).settings = s.settings ∧
    (s.cueRequest n a i sec ms).clock = s.clock ∧
    (s.cueRequest n a i sec ms).regions = s.regions ∧
    (s.cueRequest n a i sec ms).store = s.store ∧
    (s.cueRequest n a i sec ms).pacing = s.pacing ∧
    (s.cueRequest n a i sec ms).port = s.port ∧
    (s.cueRequest n a i sec ms).cues = s.cues ∧
    (s.cueRequest n a i sec ms).link = s.link ∧
    (s.cueRequest n a i sec ms).pending = s.pending := by
  unfold State.cueRequest; split
  · simp
  · dsimp only
    split
    next s' h => simp [State.requestAction_frame _ _ _ _ _ _ s' h]
    next => simp

@[simp] theorem State.refreshKickoffFlag_frame (s : State) (i : Nat) :
    (s.refreshKickoffFlag i).run = s.run ∧
    (s.refreshKickoffFlag i).osc = s.osc ∧
    (s.refreshKickoffFlag i).draws = s.draws ∧
    (s.refreshKickoffFlag i).choices = s.choices ∧
    (s.refreshKickoffFlag i).sup = s.sup ∧
    (s.refreshKickoffFlag i).settings = s.settings ∧
    (s.refreshKickoffFlag i).clock = s.clock ∧
    (s.refreshKickoffFlag i).due = s.due ∧
    (s.refreshKickoffFlag i).products = s.products ∧
    (s.refreshKickoffFlag i).regions = s.regions ∧
    (s.refreshKickoffFlag i).store = s.store ∧
    (s.refreshKickoffFlag i).pacing = s.pacing ∧
    (s.refreshKickoffFlag i).arbiter = s.arbiter ∧
    (s.refreshKickoffFlag i).port = s.port ∧
    (s.refreshKickoffFlag i).walker = s.walker ∧
    (s.refreshKickoffFlag i).cues = s.cues ∧
    (s.refreshKickoffFlag i).link = s.link ∧
    (s.refreshKickoffFlag i).notices = s.notices ∧
    (s.refreshKickoffFlag i).pending = s.pending := by
  and_intros <;> (unfold State.refreshKickoffFlag; (try dsimp only); (repeat' split) <;> simp)

end Sys2Proof.Machine
end

