-- ==== Sys2Proof/Laws/Store.lean ====
section
/-! SUPPORT. What the operations of the Grant Store leave unchanged. -/

namespace Sys2Proof.Machine

@[simp] theorem State.createRecord_frame (s : State) (k : Key) (n : Nat) :
    (s.createRecord k n).run = s.run ∧
    (s.createRecord k n).osc = s.osc ∧
    (s.createRecord k n).draws = s.draws ∧
    (s.createRecord k n).choices = s.choices ∧
    (s.createRecord k n).sup = s.sup ∧
    (s.createRecord k n).settings = s.settings ∧
    (s.createRecord k n).clock = s.clock ∧
    (s.createRecord k n).marks = s.marks ∧
    (s.createRecord k n).due = s.due ∧
    (s.createRecord k n).events = s.events ∧
    (s.createRecord k n).regions = s.regions ∧
    (s.createRecord k n).pacing = s.pacing ∧
    (s.createRecord k n).arbiter = s.arbiter ∧
    (s.createRecord k n).port = s.port ∧
    (s.createRecord k n).walker = s.walker ∧
    (s.createRecord k n).cues = s.cues ∧
    (s.createRecord k n).link = s.link ∧
    (s.createRecord k n).pending = s.pending := by
  and_intros <;> (unfold State.createRecord; (try dsimp only); (repeat' split) <;> simp)

@[simp] theorem State.freeRecord_frame (s : State) (r : GrantRecord) :
    (s.freeRecord r).run = s.run ∧
    (s.freeRecord r).osc = s.osc ∧
    (s.freeRecord r).draws = s.draws ∧
    (s.freeRecord r).choices = s.choices ∧
    (s.freeRecord r).sup = s.sup ∧
    (s.freeRecord r).settings = s.settings ∧
    (s.freeRecord r).clock = s.clock ∧
    (s.freeRecord r).marks = s.marks ∧
    (s.freeRecord r).due = s.due ∧
    (s.freeRecord r).events = s.events ∧
    (s.freeRecord r).regions = s.regions ∧
    (s.freeRecord r).pacing = s.pacing ∧
    (s.freeRecord r).arbiter = s.arbiter ∧
    (s.freeRecord r).port = s.port ∧
    (s.freeRecord r).walker = s.walker ∧
    (s.freeRecord r).cues = s.cues ∧
    (s.freeRecord r).link = s.link ∧
    (s.freeRecord r).notices = s.notices ∧
    (s.freeRecord r).pending = s.pending := by
  and_intros <;> (unfold State.freeRecord; (try dsimp only); (repeat' split) <;> simp)

@[simp] theorem State.bitSet_frame (s : State) (k : Key) (n : Nat) :
    (s.bitSet k n).2.run = s.run ∧
    (s.bitSet k n).2.osc = s.osc ∧
    (s.bitSet k n).2.draws = s.draws ∧
    (s.bitSet k n).2.choices = s.choices ∧
    (s.bitSet k n).2.sup = s.sup ∧
    (s.bitSet k n).2.settings = s.settings ∧
    (s.bitSet k n).2.clock = s.clock ∧
    (s.bitSet k n).2.marks = s.marks ∧
    (s.bitSet k n).2.due = s.due ∧
    (s.bitSet k n).2.events = s.events ∧
    (s.bitSet k n).2.regions = s.regions ∧
    (s.bitSet k n).2.pacing = s.pacing ∧
    (s.bitSet k n).2.arbiter = s.arbiter ∧
    (s.bitSet k n).2.port = s.port ∧
    (s.bitSet k n).2.walker = s.walker ∧
    (s.bitSet k n).2.cues = s.cues ∧
    (s.bitSet k n).2.link = s.link ∧
    (s.bitSet k n).2.pending = s.pending := by
  and_intros <;> (unfold State.bitSet; (try dsimp only); (repeat' split) <;> simp)

@[simp] theorem State.bitClear_frame (s : State) (k : Key) (n : Nat) :
    (s.bitClear k n).2.run = s.run ∧
    (s.bitClear k n).2.osc = s.osc ∧
    (s.bitClear k n).2.draws = s.draws ∧
    (s.bitClear k n).2.choices = s.choices ∧
    (s.bitClear k n).2.sup = s.sup ∧
    (s.bitClear k n).2.settings = s.settings ∧
    (s.bitClear k n).2.clock = s.clock ∧
    (s.bitClear k n).2.marks = s.marks ∧
    (s.bitClear k n).2.due = s.due ∧
    (s.bitClear k n).2.events = s.events ∧
    (s.bitClear k n).2.products = s.products ∧
    (s.bitClear k n).2.regions = s.regions ∧
    (s.bitClear k n).2.pacing = s.pacing ∧
    (s.bitClear k n).2.arbiter = s.arbiter ∧
    (s.bitClear k n).2.port = s.port ∧
    (s.bitClear k n).2.walker = s.walker ∧
    (s.bitClear k n).2.cues = s.cues ∧
    (s.bitClear k n).2.link = s.link ∧
    (s.bitClear k n).2.notices = s.notices ∧
    (s.bitClear k n).2.pending = s.pending := by
  and_intros <;> (unfold State.bitClear; (try dsimp only); (repeat' split) <;> simp)

@[simp] theorem State.placeEmitted_frame (s : State) (r : GrantRecord) :
    (s.placeEmitted r).run = s.run ∧
    (s.placeEmitted r).osc = s.osc ∧
    (s.placeEmitted r).draws = s.draws ∧
    (s.placeEmitted r).choices = s.choices ∧
    (s.placeEmitted r).sup = s.sup ∧
    (s.placeEmitted r).settings = s.settings ∧
    (s.placeEmitted r).clock = s.clock ∧
    (s.placeEmitted r).marks = s.marks ∧
    (s.placeEmitted r).due = s.due ∧
    (s.placeEmitted r).events = s.events ∧
    (s.placeEmitted r).regions = s.regions ∧
    (s.placeEmitted r).pacing = s.pacing ∧
    (s.placeEmitted r).arbiter = s.arbiter ∧
    (s.placeEmitted r).port = s.port ∧
    (s.placeEmitted r).walker = s.walker ∧
    (s.placeEmitted r).cues = s.cues ∧
    (s.placeEmitted r).link = s.link ∧
    (s.placeEmitted r).notices = s.notices ∧
    (s.placeEmitted r).pending = s.pending := by
  and_intros <;> (unfold State.placeEmitted; (try dsimp only); (repeat' split) <;> simp)

@[simp] theorem State.emit_frame (s : State) (r : GrantRecord) :
    (s.emit r).2.run = s.run ∧
    (s.emit r).2.osc = s.osc ∧
    (s.emit r).2.draws = s.draws ∧
    (s.emit r).2.choices = s.choices ∧
    (s.emit r).2.sup = s.sup ∧
    (s.emit r).2.settings = s.settings ∧
    (s.emit r).2.clock = s.clock ∧
    (s.emit r).2.marks = s.marks ∧
    (s.emit r).2.due = s.due ∧
    (s.emit r).2.events = s.events ∧
    (s.emit r).2.regions = s.regions ∧
    (s.emit r).2.arbiter = s.arbiter ∧
    (s.emit r).2.port = s.port ∧
    (s.emit r).2.walker = s.walker ∧
    (s.emit r).2.cues = s.cues ∧
    (s.emit r).2.link = s.link ∧
    (s.emit r).2.notices = s.notices ∧
    (s.emit r).2.pending = s.pending := by
  unfold State.emit; simp only []; split <;> simp

@[simp] theorem State.extendRecord_frame (s : State) (r : GrantRecord) :
    (s.extendRecord r).2.run = s.run ∧
    (s.extendRecord r).2.osc = s.osc ∧
    (s.extendRecord r).2.draws = s.draws ∧
    (s.extendRecord r).2.choices = s.choices ∧
    (s.extendRecord r).2.sup = s.sup ∧
    (s.extendRecord r).2.settings = s.settings ∧
    (s.extendRecord r).2.clock = s.clock ∧
    (s.extendRecord r).2.marks = s.marks ∧
    (s.extendRecord r).2.due = s.due ∧
    (s.extendRecord r).2.events = s.events ∧
    (s.extendRecord r).2.products = s.products ∧
    (s.extendRecord r).2.regions = s.regions ∧
    (s.extendRecord r).2.pacing = s.pacing ∧
    (s.extendRecord r).2.arbiter = s.arbiter ∧
    (s.extendRecord r).2.port = s.port ∧
    (s.extendRecord r).2.walker = s.walker ∧
    (s.extendRecord r).2.cues = s.cues ∧
    (s.extendRecord r).2.link = s.link ∧
    (s.extendRecord r).2.notices = s.notices ∧
    (s.extendRecord r).2.pending = s.pending := by
  and_intros <;> (unfold State.extendRecord; (try dsimp only); (repeat' split) <;> simp)

@[simp] theorem State.purgeRecord_frame (s : State) (r : GrantRecord) :
    (s.purgeRecord r).2.run = s.run ∧
    (s.purgeRecord r).2.osc = s.osc ∧
    (s.purgeRecord r).2.draws = s.draws ∧
    (s.purgeRecord r).2.choices = s.choices ∧
    (s.purgeRecord r).2.sup = s.sup ∧
    (s.purgeRecord r).2.settings = s.settings ∧
    (s.purgeRecord r).2.clock = s.clock ∧
    (s.purgeRecord r).2.marks = s.marks ∧
    (s.purgeRecord r).2.due = s.due ∧
    (s.purgeRecord r).2.events = s.events ∧
    (s.purgeRecord r).2.regions = s.regions ∧
    (s.purgeRecord r).2.pacing = s.pacing ∧
    (s.purgeRecord r).2.arbiter = s.arbiter ∧
    (s.purgeRecord r).2.port = s.port ∧
    (s.purgeRecord r).2.walker = s.walker ∧
    (s.purgeRecord r).2.cues = s.cues ∧
    (s.purgeRecord r).2.link = s.link ∧
    (s.purgeRecord r).2.notices = s.notices ∧
    (s.purgeRecord r).2.pending = s.pending := by
  and_intros <;> (unfold State.purgeRecord; (try dsimp only); (repeat' split) <;> simp)

@[simp] theorem State.voidRecord_frame (s : State) (r : GrantRecord) :
    (s.voidRecord r).2.run = s.run ∧
    (s.voidRecord r).2.osc = s.osc ∧
    (s.voidRecord r).2.draws = s.draws ∧
    (s.voidRecord r).2.choices = s.choices ∧
    (s.voidRecord r).2.sup = s.sup ∧
    (s.voidRecord r).2.settings = s.settings ∧
    (s.voidRecord r).2.clock = s.clock ∧
    (s.voidRecord r).2.marks = s.marks ∧
    (s.voidRecord r).2.due = s.due ∧
    (s.voidRecord r).2.events = s.events ∧
    (s.voidRecord r).2.products = s.products ∧
    (s.voidRecord r).2.regions = s.regions ∧
    (s.voidRecord r).2.pacing = s.pacing ∧
    (s.voidRecord r).2.arbiter = s.arbiter ∧
    (s.voidRecord r).2.port = s.port ∧
    (s.voidRecord r).2.walker = s.walker ∧
    (s.voidRecord r).2.cues = s.cues ∧
    (s.voidRecord r).2.link = s.link ∧
    (s.voidRecord r).2.notices = s.notices ∧
    (s.voidRecord r).2.pending = s.pending := by
  and_intros <;> (unfold State.voidRecord; (try dsimp only); (repeat' split) <;> simp)

@[simp] theorem State.purchaseBit_frame (s : State) (k : Key) (a b : Nat) (p : Bool) :
    (s.purchaseBit k a b p).2.run = s.run ∧
    (s.purchaseBit k a b p).2.osc = s.osc ∧
    (s.purchaseBit k a b p).2.draws = s.draws ∧
    (s.purchaseBit k a b p).2.choices = s.choices ∧
    (s.purchaseBit k a b p).2.sup = s.sup ∧
    (s.purchaseBit k a b p).2.settings = s.settings ∧
    (s.purchaseBit k a b p).2.clock = s.clock ∧
    (s.purchaseBit k a b p).2.marks = s.marks ∧
    (s.purchaseBit k a b p).2.due = s.due ∧
    (s.purchaseBit k a b p).2.events = s.events ∧
    (s.purchaseBit k a b p).2.regions = s.regions ∧
    (s.purchaseBit k a b p).2.pacing = s.pacing ∧
    (s.purchaseBit k a b p).2.arbiter = s.arbiter ∧
    (s.purchaseBit k a b p).2.port = s.port ∧
    (s.purchaseBit k a b p).2.walker = s.walker ∧
    (s.purchaseBit k a b p).2.cues = s.cues ∧
    (s.purchaseBit k a b p).2.link = s.link ∧
    (s.purchaseBit k a b p).2.pending = s.pending := by
  unfold State.purchaseBit; have h := State.bitSet_frame s k a; split <;> simp_all

@[simp] theorem State.purchaseTest_frame (s : State) (a : BitVec 32) (p : BitVec 8) :
    (s.purchaseTest a p).2.run = s.run ∧
    (s.purchaseTest a p).2.osc = s.osc ∧
    (s.purchaseTest a p).2.draws = s.draws ∧
    (s.purchaseTest a p).2.choices = s.choices ∧
    (s.purchaseTest a p).2.sup = s.sup ∧
    (s.purchaseTest a p).2.settings = s.settings ∧
    (s.purchaseTest a p).2.clock = s.clock ∧
    (s.purchaseTest a p).2.marks = s.marks ∧
    (s.purchaseTest a p).2.due = s.due ∧
    (s.purchaseTest a p).2.events = s.events ∧
    (s.purchaseTest a p).2.regions = s.regions ∧
    (s.purchaseTest a p).2.pacing = s.pacing ∧
    (s.purchaseTest a p).2.arbiter = s.arbiter ∧
    (s.purchaseTest a p).2.port = s.port ∧
    (s.purchaseTest a p).2.walker = s.walker ∧
    (s.purchaseTest a p).2.cues = s.cues ∧
    (s.purchaseTest a p).2.link = s.link ∧
    (s.purchaseTest a p).2.pending = s.pending := by
  and_intros <;> (unfold State.purchaseTest; (try dsimp only); (repeat' split) <;> simp)

@[simp] theorem State.cancelTest_frame (s : State) (a : BitVec 32) (p : BitVec 8) :
    (s.cancelTest a p).2.run = s.run ∧
    (s.cancelTest a p).2.osc = s.osc ∧
    (s.cancelTest a p).2.draws = s.draws ∧
    (s.cancelTest a p).2.choices = s.choices ∧
    (s.cancelTest a p).2.sup = s.sup ∧
    (s.cancelTest a p).2.settings = s.settings ∧
    (s.cancelTest a p).2.clock = s.clock ∧
    (s.cancelTest a p).2.marks = s.marks ∧
    (s.cancelTest a p).2.due = s.due ∧
    (s.cancelTest a p).2.events = s.events ∧
    (s.cancelTest a p).2.products = s.products ∧
    (s.cancelTest a p).2.regions = s.regions ∧
    (s.cancelTest a p).2.pacing = s.pacing ∧
    (s.cancelTest a p).2.arbiter = s.arbiter ∧
    (s.cancelTest a p).2.port = s.port ∧
    (s.cancelTest a p).2.walker = s.walker ∧
    (s.cancelTest a p).2.cues = s.cues ∧
    (s.cancelTest a p).2.link = s.link ∧
    (s.cancelTest a p).2.notices = s.notices ∧
    (s.cancelTest a p).2.pending = s.pending := by
  unfold State.cancelTest; split
  · simp
  · split
    · simp
    · have h := State.bitClear_frame s ⟨blockOf a, p.toNat⟩ (slotOf a)
      split <;> simp_all

end Sys2Proof.Machine
end

