-- ==== Sys2Proof/Laws/LinkOps.lean ====
section
/-! SUPPORT. What the shared operations of the Order Link and the Supervision Unit leave unchanged. -/

namespace Sys2Proof.Machine

@[simp] theorem State.issueChallenge_frame (s : State) :
    s.issueChallenge.run = s.run ∧
    s.issueChallenge.osc = s.osc ∧
    s.issueChallenge.choices = s.choices ∧
    s.issueChallenge.clock = s.clock ∧
    s.issueChallenge.marks = s.marks ∧
    s.issueChallenge.due = s.due ∧
    s.issueChallenge.events = s.events ∧
    s.issueChallenge.products = s.products ∧
    s.issueChallenge.regions = s.regions ∧
    s.issueChallenge.store = s.store ∧
    s.issueChallenge.pacing = s.pacing ∧
    s.issueChallenge.arbiter = s.arbiter ∧
    s.issueChallenge.port = s.port ∧
    s.issueChallenge.walker = s.walker ∧
    s.issueChallenge.cues = s.cues ∧
    s.issueChallenge.link = s.link ∧
    s.issueChallenge.notices = s.notices ∧
    s.issueChallenge.pending = s.pending := by
  and_intros <;> (unfold State.issueChallenge; (try dsimp only); (repeat' split) <;> simp)

@[simp] theorem State.startPeriod_frame (s : State) :
    s.startPeriod.run = s.run ∧
    s.startPeriod.osc = s.osc ∧
    s.startPeriod.draws = s.draws ∧
    s.startPeriod.choices = s.choices ∧
    s.startPeriod.clock = s.clock ∧
    s.startPeriod.marks = s.marks ∧
    s.startPeriod.due = s.due ∧
    s.startPeriod.events = s.events ∧
    s.startPeriod.products = s.products ∧
    s.startPeriod.regions = s.regions ∧
    s.startPeriod.store = s.store ∧
    s.startPeriod.pacing = s.pacing ∧
    s.startPeriod.arbiter = s.arbiter ∧
    s.startPeriod.port = s.port ∧
    s.startPeriod.walker = s.walker ∧
    s.startPeriod.cues = s.cues ∧
    s.startPeriod.link = s.link ∧
    s.startPeriod.notices = s.notices ∧
    s.startPeriod.pending = s.pending := by
  and_intros <;> (unfold State.startPeriod; (try dsimp only); (repeat' split) <;> simp)

@[simp] theorem State.enterStanddown_frame (s : State) (b : Bool) :
    (s.enterStanddown b).run = s.run ∧
    (s.enterStanddown b).osc = s.osc ∧
    (s.enterStanddown b).draws = s.draws ∧
    (s.enterStanddown b).choices = s.choices ∧
    (s.enterStanddown b).settings = s.settings ∧
    (s.enterStanddown b).clock = s.clock ∧
    (s.enterStanddown b).marks = s.marks ∧
    (s.enterStanddown b).due = s.due ∧
    (s.enterStanddown b).events = s.events ∧
    (s.enterStanddown b).products = s.products ∧
    (s.enterStanddown b).regions = s.regions ∧
    (s.enterStanddown b).store = s.store ∧
    (s.enterStanddown b).pacing = s.pacing ∧
    (s.enterStanddown b).arbiter = s.arbiter ∧
    (s.enterStanddown b).walker = s.walker ∧
    (s.enterStanddown b).cues = s.cues ∧
    (s.enterStanddown b).link = s.link ∧
    (s.enterStanddown b).pending = s.pending := by
  and_intros <;> (unfold State.enterStanddown; (try dsimp only); (repeat' split) <;> simp)

@[simp] theorem State.policyEntry_frame (s : State) :
    s.policyEntry.run = s.run ∧
    s.policyEntry.osc = s.osc ∧
    s.policyEntry.draws = s.draws ∧
    s.policyEntry.choices = s.choices ∧
    s.policyEntry.settings = s.settings ∧
    s.policyEntry.clock = s.clock ∧
    s.policyEntry.marks = s.marks ∧
    s.policyEntry.due = s.due ∧
    s.policyEntry.events = s.events ∧
    s.policyEntry.products = s.products ∧
    s.policyEntry.regions = s.regions ∧
    s.policyEntry.store = s.store ∧
    s.policyEntry.pacing = s.pacing ∧
    s.policyEntry.arbiter = s.arbiter ∧
    s.policyEntry.cues = s.cues ∧
    s.policyEntry.link = s.link ∧
    s.policyEntry.pending = s.pending := by
  and_intros <;> (unfold State.policyEntry; (try dsimp only); (repeat' split) <;> simp)

@[simp] theorem State.enterHoldover_frame (s : State) (b : Bool) :
    (s.enterHoldover b).run = s.run ∧
    (s.enterHoldover b).osc = s.osc ∧
    (s.enterHoldover b).draws = s.draws ∧
    (s.enterHoldover b).choices = s.choices ∧
    (s.enterHoldover b).settings = s.settings ∧
    (s.enterHoldover b).clock = s.clock ∧
    (s.enterHoldover b).marks = s.marks ∧
    (s.enterHoldover b).due = s.due ∧
    (s.enterHoldover b).events = s.events ∧
    (s.enterHoldover b).products = s.products ∧
    (s.enterHoldover b).regions = s.regions ∧
    (s.enterHoldover b).store = s.store ∧
    (s.enterHoldover b).pacing = s.pacing ∧
    (s.enterHoldover b).arbiter = s.arbiter ∧
    (s.enterHoldover b).cues = s.cues ∧
    (s.enterHoldover b).pending = s.pending := by
  unfold State.enterHoldover; simp

@[simp] theorem State.countFault_frame (s : State) (c : FaultCause) :
    (s.countFault c).run = s.run ∧
    (s.countFault c).osc = s.osc ∧
    (s.countFault c).draws = s.draws ∧
    (s.countFault c).choices = s.choices ∧
    (s.countFault c).clock = s.clock ∧
    (s.countFault c).marks = s.marks ∧
    (s.countFault c).due = s.due ∧
    (s.countFault c).events = s.events ∧
    (s.countFault c).products = s.products ∧
    (s.countFault c).regions = s.regions ∧
    (s.countFault c).store = s.store ∧
    (s.countFault c).pacing = s.pacing ∧
    (s.countFault c).arbiter = s.arbiter ∧
    (s.countFault c).cues = s.cues ∧
    (s.countFault c).pending = s.pending := by
  and_intros <;> (unfold State.countFault; (try dsimp only); (repeat' split) <;> simp)

@[simp] theorem State.restartQuiet_frame (s : State) :
    s.restartQuiet.run = s.run ∧
    s.restartQuiet.osc = s.osc ∧
    s.restartQuiet.draws = s.draws ∧
    s.restartQuiet.choices = s.choices ∧
    s.restartQuiet.settings = s.settings ∧
    s.restartQuiet.clock = s.clock ∧
    s.restartQuiet.marks = s.marks ∧
    s.restartQuiet.due = s.due ∧
    s.restartQuiet.events = s.events ∧
    s.restartQuiet.products = s.products ∧
    s.restartQuiet.regions = s.regions ∧
    s.restartQuiet.store = s.store ∧
    s.restartQuiet.pacing = s.pacing ∧
    s.restartQuiet.arbiter = s.arbiter ∧
    s.restartQuiet.port = s.port ∧
    s.restartQuiet.walker = s.walker ∧
    s.restartQuiet.cues = s.cues ∧
    s.restartQuiet.link = s.link ∧
    s.restartQuiet.notices = s.notices ∧
    s.restartQuiet.pending = s.pending := by
  and_intros <;> (unfold State.restartQuiet; (try dsimp only); (repeat' split) <;> simp)

@[simp] theorem State.frameError_frame (s : State) (b : Bool) :
    (s.frameError b).run = s.run ∧
    (s.frameError b).osc = s.osc ∧
    (s.frameError b).draws = s.draws ∧
    (s.frameError b).choices = s.choices ∧
    (s.frameError b).settings = s.settings ∧
    (s.frameError b).clock = s.clock ∧
    (s.frameError b).marks = s.marks ∧
    (s.frameError b).due = s.due ∧
    (s.frameError b).events = s.events ∧
    (s.frameError b).products = s.products ∧
    (s.frameError b).regions = s.regions ∧
    (s.frameError b).store = s.store ∧
    (s.frameError b).pacing = s.pacing ∧
    (s.frameError b).arbiter = s.arbiter ∧
    (s.frameError b).cues = s.cues ∧
    (s.frameError b).pending = s.pending := by
  and_intros <;> (unfold State.frameError; (try dsimp only); (repeat' split) <;> simp)

@[simp] theorem State.itemTest_frame (s : State) (b : Bool) (x : BatchEntry) :
    (s.itemTest b x).2.run = s.run ∧
    (s.itemTest b x).2.osc = s.osc ∧
    (s.itemTest b x).2.draws = s.draws ∧
    (s.itemTest b x).2.choices = s.choices ∧
    (s.itemTest b x).2.sup = s.sup ∧
    (s.itemTest b x).2.settings = s.settings ∧
    (s.itemTest b x).2.clock = s.clock ∧
    (s.itemTest b x).2.marks = s.marks ∧
    (s.itemTest b x).2.due = s.due ∧
    (s.itemTest b x).2.events = s.events ∧
    (s.itemTest b x).2.regions = s.regions ∧
    (s.itemTest b x).2.pacing = s.pacing ∧
    (s.itemTest b x).2.arbiter = s.arbiter ∧
    (s.itemTest b x).2.port = s.port ∧
    (s.itemTest b x).2.walker = s.walker ∧
    (s.itemTest b x).2.cues = s.cues ∧
    (s.itemTest b x).2.link = s.link ∧
    (s.itemTest b x).2.pending = s.pending := by
  and_intros <;> (unfold State.itemTest; (try dsimp only); (repeat' split) <;> simp)

@[simp] theorem State.takeItem_frame (s : State) :
    s.takeItem.run = s.run ∧
    s.takeItem.osc = s.osc ∧
    s.takeItem.draws = s.draws ∧
    s.takeItem.choices = s.choices ∧
    s.takeItem.sup = s.sup ∧
    s.takeItem.settings = s.settings ∧
    s.takeItem.clock = s.clock ∧
    s.takeItem.marks = s.marks ∧
    s.takeItem.due = s.due ∧
    s.takeItem.events = s.events ∧
    s.takeItem.regions = s.regions ∧
    s.takeItem.pacing = s.pacing ∧
    s.takeItem.arbiter = s.arbiter ∧
    s.takeItem.port = s.port ∧
    s.takeItem.walker = s.walker ∧
    s.takeItem.cues = s.cues ∧
    s.takeItem.pending = s.pending := by
  and_intros <;> (unfold State.takeItem; (try dsimp only); (repeat' split) <;> (try dsimp only) <;> (repeat' split) <;> simp)

@[simp] theorem State.completeWrite_frame (s : State) :
    s.completeWrite.run = s.run ∧
    s.completeWrite.osc = s.osc ∧
    s.completeWrite.draws = s.draws ∧
    s.completeWrite.choices = s.choices ∧
    s.completeWrite.sup = s.sup ∧
    s.completeWrite.clock = s.clock ∧
    s.completeWrite.marks = s.marks ∧
    s.completeWrite.due = s.due ∧
    s.completeWrite.events = s.events ∧
    s.completeWrite.products = s.products ∧
    s.completeWrite.regions = s.regions ∧
    s.completeWrite.store = s.store ∧
    s.completeWrite.pacing = s.pacing ∧
    s.completeWrite.arbiter = s.arbiter ∧
    s.completeWrite.port = s.port ∧
    s.completeWrite.walker = s.walker ∧
    s.completeWrite.cues = s.cues ∧
    s.completeWrite.notices = s.notices ∧
    s.completeWrite.pending = s.pending := by
  and_intros <;> (unfold State.completeWrite; (try dsimp only); (repeat' split) <;> simp)

@[simp] theorem State.attnCheck_frame (s : State) :
    s.attnCheck.run = s.run ∧
    s.attnCheck.osc = s.osc ∧
    s.attnCheck.draws = s.draws ∧
    s.attnCheck.choices = s.choices ∧
    s.attnCheck.sup = s.sup ∧
    s.attnCheck.settings = s.settings ∧
    s.attnCheck.clock = s.clock ∧
    s.attnCheck.marks = s.marks ∧
    s.attnCheck.due = s.due ∧
    s.attnCheck.events = s.events ∧
    s.attnCheck.products = s.products ∧
    s.attnCheck.regions = s.regions ∧
    s.attnCheck.store = s.store ∧
    s.attnCheck.pacing = s.pacing ∧
    s.attnCheck.arbiter = s.arbiter ∧
    s.attnCheck.port = s.port ∧
    s.attnCheck.walker = s.walker ∧
    s.attnCheck.cues = s.cues ∧
    s.attnCheck.link = s.link ∧
    s.attnCheck.pending = s.pending := by
  and_intros <;> (unfold State.attnCheck; (try dsimp only); (repeat' split) <;> simp)

@[simp] theorem State.sendDone_frame (s : State) :
    s.sendDone.run = s.run ∧
    s.sendDone.osc = s.osc ∧
    s.sendDone.draws = s.draws ∧
    s.sendDone.choices = s.choices ∧
    s.sendDone.sup = s.sup ∧
    s.sendDone.settings = s.settings ∧
    s.sendDone.clock = s.clock ∧
    s.sendDone.marks = s.marks ∧
    s.sendDone.due = s.due ∧
    s.sendDone.events = s.events ∧
    s.sendDone.products = s.products ∧
    s.sendDone.regions = s.regions ∧
    s.sendDone.store = s.store ∧
    s.sendDone.pacing = s.pacing ∧
    s.sendDone.arbiter = s.arbiter ∧
    s.sendDone.port = s.port ∧
    s.sendDone.walker = s.walker ∧
    s.sendDone.cues = s.cues ∧
    s.sendDone.pending = s.pending := by
  and_intros <;> (unfold State.sendDone; (try dsimp only); (repeat' split) <;> simp)

end Sys2Proof.Machine
end

