-- ==== Sys2Proof/Laws/Serve.lean ====
section
/-! SUPPORT. How a command is taken: what settling, taking and replying leave unchanged, and what they are on a free link. -/

namespace Sys2Proof.Machine

/-! ### Resets -/

@[simp] theorem State.enterConfiguring_frame (s : State) :
    s.enterConfiguring.run = s.run ∧ s.enterConfiguring.osc = s.osc ∧ s.enterConfiguring.choices = s.choices ∧
    s.enterConfiguring.clock = s.clock ∧ s.enterConfiguring.marks = s.marks ∧ s.enterConfiguring.due = s.due ∧
    s.enterConfiguring.events = s.events ∧ s.enterConfiguring.products = s.products ∧
    s.enterConfiguring.regions = s.regions ∧ s.enterConfiguring.store = s.store ∧
    s.enterConfiguring.pacing = s.pacing ∧ s.enterConfiguring.arbiter = s.arbiter ∧ s.enterConfiguring.port = s.port ∧
    s.enterConfiguring.walker = s.walker ∧ s.enterConfiguring.cues = s.cues ∧ s.enterConfiguring.link = s.link ∧
    s.enterConfiguring.notices = s.notices ∧ s.enterConfiguring.pending = s.pending := by
  and_intros <;> simp [State.enterConfiguring]

/-- Entry to CONFIGURING keeps the policy, the current settings, the stored copy and a write (R148, R164). -/
@[simp] theorem State.enterConfiguring_keeps (s : State) :
    s.enterConfiguring.sup.policy = s.sup.policy ∧ s.enterConfiguring.sup.mode = .configuring ∧
    s.enterConfiguring.settings.current = s.settings.current ∧
    s.enterConfiguring.settings.stored = s.settings.stored ∧
    s.enterConfiguring.settings.writing = s.settings.writing := by
  and_intros <;> simp [State.enterConfiguring, State.issueChallenge]

@[simp] theorem State.emptyTables_frame (s : State) :
    s.emptyTables.run = s.run ∧ s.emptyTables.osc = s.osc ∧ s.emptyTables.draws = s.draws ∧
    s.emptyTables.choices = s.choices ∧ s.emptyTables.sup = s.sup ∧ s.emptyTables.settings = s.settings ∧
    s.emptyTables.clock = s.clock ∧ s.emptyTables.pacing = s.pacing ∧ s.emptyTables.arbiter = s.arbiter ∧
    s.emptyTables.port = s.port ∧ s.emptyTables.link = s.link ∧ s.emptyTables.notices = s.notices ∧
    s.emptyTables.pending = s.pending := by
  and_intros <;> rfl

/-- What every reset kind empties. -/
@[simp] theorem State.emptyTables_empties (s : State) :
    s.emptyTables.marks = [] ∧ s.emptyTables.due = .idle ∧ s.emptyTables.events = emptyEvents ∧
    s.emptyTables.products = emptyProducts ∧ s.emptyTables.regions = emptyRegions ∧ s.emptyTables.store = .empty ∧
    s.emptyTables.walker = .idle ∧ s.emptyTables.cues = s.cues.cleared s.sup.policy := by
  and_intros <;> rfl

/-- What RESET TABLES and configuring-window expiry keep. -/
@[simp] theorem State.resetTables_keeps (s : State) :
    s.resetTables.run = s.run ∧ s.resetTables.osc = s.osc ∧ s.resetTables.choices = s.choices ∧
    s.resetTables.notices = s.notices ∧ s.resetTables.pending = s.pending ∧
    s.resetTables.sup.policy = s.sup.policy ∧ s.resetTables.sup.mode = .configuring ∧
    s.resetTables.settings.current = s.settings.current ∧ s.resetTables.settings.stored = s.settings.stored ∧
    s.resetTables.settings.writing = s.settings.writing ∧ s.resetTables.clock = { s.clock with hold := 0 } ∧
    s.resetTables.link = { s.link with unsolicited := none, batch := none } := by
  and_intros <;> simp [State.resetTables]

@[simp] theorem State.resetTablesActs_keeps (s : State) :
    s.resetTablesActs.run = s.run ∧ s.resetTablesActs.osc = s.osc ∧ s.resetTablesActs.choices = s.choices ∧
    s.resetTablesActs.notices = s.notices ∧ s.resetTablesActs.pending = s.pending ∧
    s.resetTablesActs.sup.policy = s.sup.policy ∧ s.resetTablesActs.sup.mode = .configuring ∧
    s.resetTablesActs.settings.current = s.settings.current ∧
    s.resetTablesActs.settings.stored = s.settings.stored := by
  and_intros <;> simp [State.resetTablesActs]

/-- What a start leaves unchanged, whichever kind of release or RESET FULL brings it about. -/
@[simp] theorem State.start_keeps (s : State) (p : Port) :
    (s.start p).run = .running ∧ (s.start p).osc = s.osc ∧ (s.start p).choices = s.choices ∧
    (s.start p).pending = s.pending ∧ (s.start p).sup.policy = s.sup.policy ∧
    (s.start p).sup.mode = .configuring ∧ (s.start p).settings.stored = s.settings.stored := by
  and_intros <;> (unfold State.start; (try dsimp only); split <;> simp)

@[simp] theorem State.resetFullActs_keeps (s : State) :
    s.resetFullActs.run = .running ∧ s.resetFullActs.osc = s.osc ∧ s.resetFullActs.choices = s.choices ∧
    s.resetFullActs.pending = s.pending ∧ s.resetFullActs.sup.policy = s.sup.policy ∧
    s.resetFullActs.sup.mode = .configuring ∧ s.resetFullActs.settings.stored = s.settings.stored := by
  and_intros <;> simp [State.resetFullActs]

@[simp] theorem State.endActivity_frame (s : State) :
    s.endActivity.run = s.run ∧ s.endActivity.osc = s.osc ∧ s.endActivity.draws = s.draws ∧
    s.endActivity.choices = s.choices ∧ s.endActivity.clock = s.clock ∧ s.endActivity.marks = s.marks ∧
    s.endActivity.events = s.events ∧ s.endActivity.products = s.products ∧ s.endActivity.regions = s.regions ∧
    s.endActivity.store = s.store ∧ s.endActivity.pacing = s.pacing ∧ s.endActivity.arbiter = s.arbiter ∧
    s.endActivity.cues = s.cues ∧ s.endActivity.notices = s.notices ∧ s.endActivity.pending = s.pending := by
  and_intros <;> simp [State.endActivity]

/-! ### Settling (log 5) -/

/-- A link that is free needs no settling (R174). -/
theorem State.linkStep_free (s : State) (h : s.link.free = true) : s.linkStep = none := by
  simp only [Link.free, Bool.and_eq_true, Option.isNone_iff_eq_none, List.isEmpty_iff] at h
  obtain ⟨⟨⟨hs, ht⟩, hu⟩, hr⟩ := h
  simp [State.linkStep, hs, ht, hu, hr]

theorem State.settleFor_free (n : Nat) (s : State) (h : s.link.free = true) : State.settleFor n s = s := by
  cases n with
  | zero => rfl
  | succ n => simp [State.settleFor, State.linkStep_free s h]

theorem State.settle_free (s : State) (h : s.link.free = true) : s.settle = s := State.settleFor_free 64 s h

/-- A settling step keeps the queue, the time and the policy, and leaves the part running. -/
theorem State.linkStep_keeps (s t : State) (h : s.linkStep = some t) :
    t.pending = s.pending ∧ t.osc = s.osc ∧ t.choices = s.choices ∧ t.sup.policy = s.sup.policy ∧
    (s.run = .running → t.run = .running) := by
  unfold State.linkStep at h
  (repeat' split at h) <;>
    first
      | (obtain rfl := Option.some.inj h
         first
           | (rename_i f _; cases f <;> simp [State.resetActs])
           | (split <;> simp)
           | simp)
      | simp at h

theorem State.settleFor_keeps (n : Nat) (s : State) :
    (State.settleFor n s).pending = s.pending ∧ (State.settleFor n s).osc = s.osc ∧
    (State.settleFor n s).choices = s.choices ∧ (State.settleFor n s).sup.policy = s.sup.policy ∧
    (s.run = .running → (State.settleFor n s).run = .running) := by
  induction n generalizing s with
  | zero => simp [State.settleFor]
  | succ n ih =>
    unfold State.settleFor
    split
    next t h =>
      obtain ⟨h1, h2, h3, h4, h5⟩ := State.linkStep_keeps s t h
      obtain ⟨g1, g2, g3, g4, g5⟩ := ih t
      exact ⟨g1.trans h1, g2.trans h2, g3.trans h3, g4.trans h4, fun r => g5 (h5 r)⟩
    next => simp

@[simp] theorem State.settle_keeps (s : State) :
    s.settle.pending = s.pending ∧ s.settle.osc = s.osc ∧ s.settle.choices = s.choices ∧
    s.settle.sup.policy = s.sup.policy :=
  let ⟨h1, h2, h3, h4, _⟩ := State.settleFor_keeps 64 s
  ⟨h1, h2, h3, h4⟩

/-! ### Taking and replying -/

/-- Taking a frame out of the holding changes the link alone. -/
@[simp] theorem State.takeFrame_frame (s : State) (c : Instr) :
    (s.takeFrame c).run = s.run ∧ (s.takeFrame c).osc = s.osc ∧ (s.takeFrame c).draws = s.draws ∧
    (s.takeFrame c).choices = s.choices ∧ (s.takeFrame c).sup = s.sup ∧ (s.takeFrame c).settings = s.settings ∧
    (s.takeFrame c).clock = s.clock ∧ (s.takeFrame c).marks = s.marks ∧ (s.takeFrame c).due = s.due ∧
    (s.takeFrame c).events = s.events ∧ (s.takeFrame c).products = s.products ∧
    (s.takeFrame c).regions = s.regions ∧ (s.takeFrame c).store = s.store ∧ (s.takeFrame c).pacing = s.pacing ∧
    (s.takeFrame c).arbiter = s.arbiter ∧ (s.takeFrame c).port = s.port ∧ (s.takeFrame c).walker = s.walker ∧
    (s.takeFrame c).cues = s.cues ∧ (s.takeFrame c).notices = s.notices ∧
    (s.takeFrame c).pending = s.pending := by
  and_intros <;> (unfold State.takeFrame; (repeat' split) <;> simp)

@[simp] theorem State.takeFrame_link (s : State) (c : Instr) :
    (s.takeFrame c).link.framing = s.link.framing ∧ (s.takeFrame c).link.lastByte = s.link.lastByte ∧
    (s.takeFrame c).link.errors = s.link.errors ∧ (s.takeFrame c).link.service = s.link.service ∧
    (s.takeFrame c).link.tx = s.link.tx ∧ (s.takeFrame c).link.unsolicited = s.link.unsolicited ∧
    (s.takeFrame c).link.batch = s.link.batch ∧ (s.takeFrame c).link.resetDue = s.link.resetDue := by
  and_intros <;> (unfold State.takeFrame; (repeat' split) <;> simp)

@[simp] theorem State.begin_keeps (s : State) (c : Instr) :
    (s.begin c).pending = s.pending ∧ (s.begin c).osc = s.osc ∧ (s.begin c).choices = s.choices ∧
    (s.begin c).sup.policy = s.sup.policy := by
  simp [State.begin]

/-- A reply changes the transmitter alone. -/
@[simp] theorem State.reply_frame (s : State) (k g : BitVec 8) (st : Status) (f : ReplyFields) :
    (s.reply k g st f).run = s.run ∧ (s.reply k g st f).osc = s.osc ∧ (s.reply k g st f).draws = s.draws ∧
    (s.reply k g st f).choices = s.choices ∧ (s.reply k g st f).sup = s.sup ∧
    (s.reply k g st f).settings = s.settings ∧ (s.reply k g st f).clock = s.clock ∧
    (s.reply k g st f).marks = s.marks ∧ (s.reply k g st f).due = s.due ∧ (s.reply k g st f).events = s.events ∧
    (s.reply k g st f).products = s.products ∧ (s.reply k g st f).regions = s.regions ∧
    (s.reply k g st f).store = s.store ∧ (s.reply k g st f).pacing = s.pacing ∧
    (s.reply k g st f).arbiter = s.arbiter ∧ (s.reply k g st f).port = s.port ∧
    (s.reply k g st f).walker = s.walker ∧ (s.reply k g st f).cues = s.cues ∧
    (s.reply k g st f).notices = s.notices ∧ (s.reply k g st f).pending = s.pending ∧
    (s.reply k g st f).link = { s.link with tx := s.link.tx ++ [⟨⟨k, g, st, f⟩, true⟩] } := by
  and_intros <;> rfl

/-- Serving a taken command either replies on what its rule left, or leaves what its rule left, or refuses. -/
theorem State.serveTaken_cases (s : State) (c : Instr) (rule : State → Answer) :
    (∃ st f, s.serveTaken c rule = s.reply (kindOf c + 0x80) (hdrOf c).tag st f) ∨
    (∃ st f, s.serveTaken c rule = (rule s).2.reply (kindOf c + 0x80) (hdrOf c).tag st f) ∨
    s.serveTaken c rule = (rule s).2 := by
  unfold State.serveTaken
  split
  · exact .inl ⟨_, _, rfl⟩
  · split
    · exact .inl ⟨_, _, rfl⟩
    · split
      next st f t h => exact .inr (.inl ⟨st, f, by rw [h]⟩)
      next t h => exact .inr (.inr (by rw [h]))

end Sys2Proof.Machine
end

