-- ==== Sys2Proof/Laws/Units.lean ====
section
/-! SUPPORT. What the operations of the Settings Store, the Broadcast Clock and the Supervision Unit leave unchanged. -/

namespace Sys2Proof.Machine

@[simp] theorem State.completeKeepalive_frame (s : State) :
    s.completeKeepalive.run = s.run ∧ s.completeKeepalive.osc = s.osc ∧ s.completeKeepalive.choices = s.choices ∧
    s.completeKeepalive.clock = s.clock ∧ s.completeKeepalive.marks = s.marks ∧ s.completeKeepalive.due = s.due ∧
    s.completeKeepalive.events = s.events ∧ s.completeKeepalive.products = s.products ∧
    s.completeKeepalive.regions = s.regions ∧ s.completeKeepalive.store = s.store ∧
    s.completeKeepalive.pacing = s.pacing ∧ s.completeKeepalive.arbiter = s.arbiter ∧
    s.completeKeepalive.port = s.port ∧ s.completeKeepalive.walker = s.walker ∧ s.completeKeepalive.cues = s.cues ∧
    s.completeKeepalive.link = s.link ∧ s.completeKeepalive.notices = s.notices ∧
    s.completeKeepalive.pending = s.pending := by
  simp [State.completeKeepalive]

@[simp] theorem State.startStarvation_frame (s : State) :
    s.startStarvation.run = s.run ∧ s.startStarvation.osc = s.osc ∧ s.startStarvation.draws = s.draws ∧
    s.startStarvation.choices = s.choices ∧ s.startStarvation.sup = s.sup ∧ s.startStarvation.settings = s.settings ∧
    s.startStarvation.clock = s.clock ∧ s.startStarvation.marks = s.marks ∧ s.startStarvation.due = s.due ∧
    s.startStarvation.events = s.events ∧ s.startStarvation.products = s.products ∧
    s.startStarvation.regions = s.regions ∧ s.startStarvation.store = s.store ∧ s.startStarvation.pacing = s.pacing ∧
    s.startStarvation.arbiter = s.arbiter ∧ s.startStarvation.walker = s.walker ∧ s.startStarvation.cues = s.cues ∧
    s.startStarvation.link = s.link ∧ s.startStarvation.notices = s.notices ∧ s.startStarvation.pending = s.pending := by
  simp [State.startStarvation]

@[simp] theorem State.go_frame (s : State) :
    s.go.run = s.run ∧ s.go.osc = s.osc ∧ s.go.clock = s.clock ∧ s.go.due = s.due ∧ s.go.regions = s.regions ∧
    s.go.store = s.store ∧ s.go.pacing = s.pacing ∧ s.go.cues = s.cues ∧ s.go.link = s.link ∧
    s.go.pending = s.pending := by
  unfold State.go; simp

@[simp] theorem State.resume_frame (s : State) :
    s.resume.run = s.run ∧ s.resume.osc = s.osc ∧ s.resume.choices = s.choices ∧ s.resume.clock = s.clock ∧
    s.resume.marks = s.marks ∧ s.resume.due = s.due ∧ s.resume.events = s.events ∧ s.resume.products = s.products ∧
    s.resume.regions = s.regions ∧ s.resume.store = s.store ∧ s.resume.pacing = s.pacing ∧
    s.resume.arbiter = s.arbiter ∧ s.resume.walker = s.walker ∧ s.resume.cues = s.cues ∧ s.resume.pending = s.pending := by
  unfold State.resume; dsimp only; split <;> simp

@[simp] theorem State.finalPart_frame (s : State) :
    s.finalPart.2.run = s.run ∧ s.finalPart.2.osc = s.osc ∧ s.finalPart.2.clock = s.clock ∧
    s.finalPart.2.due = s.due ∧ s.finalPart.2.regions = s.regions ∧ s.finalPart.2.store = s.store ∧
    s.finalPart.2.pacing = s.pacing ∧ s.finalPart.2.cues = s.cues ∧ s.finalPart.2.pending = s.pending := by
  unfold State.finalPart; (repeat' split) <;> simp

@[simp] theorem State.wrongPart_frame (s : State) :
    s.wrongPart.run = s.run ∧ s.wrongPart.osc = s.osc ∧ s.wrongPart.draws = s.draws ∧
    s.wrongPart.choices = s.choices ∧ s.wrongPart.clock = s.clock ∧ s.wrongPart.marks = s.marks ∧
    s.wrongPart.due = s.due ∧ s.wrongPart.events = s.events ∧ s.wrongPart.products = s.products ∧
    s.wrongPart.regions = s.regions ∧ s.wrongPart.store = s.store ∧ s.wrongPart.pacing = s.pacing ∧
    s.wrongPart.arbiter = s.arbiter ∧ s.wrongPart.cues = s.cues ∧ s.wrongPart.pending = s.pending := by
  unfold State.wrongPart; split <;> simp

@[simp] theorem State.takePart_frame (s : State) (a b : Nat) :
    (s.takePart a b).2.run = s.run ∧ (s.takePart a b).2.osc = s.osc ∧ (s.takePart a b).2.clock = s.clock ∧
    (s.takePart a b).2.due = s.due ∧ (s.takePart a b).2.regions = s.regions ∧ (s.takePart a b).2.store = s.store ∧
    (s.takePart a b).2.pacing = s.pacing ∧ (s.takePart a b).2.cues = s.cues ∧ (s.takePart a b).2.pending = s.pending := by
  unfold State.takePart; dsimp only; (repeat' split) <;> simp

@[simp] theorem State.changeMode_frame (s : State) (m : Mode) :
    (s.changeMode m).run = s.run ∧ (s.changeMode m).osc = s.osc ∧ (s.changeMode m).draws = s.draws ∧
    (s.changeMode m).choices = s.choices ∧ (s.changeMode m).clock = s.clock ∧ (s.changeMode m).marks = s.marks ∧
    (s.changeMode m).due = s.due ∧ (s.changeMode m).events = s.events ∧ (s.changeMode m).products = s.products ∧
    (s.changeMode m).regions = s.regions ∧ (s.changeMode m).store = s.store ∧ (s.changeMode m).pacing = s.pacing ∧
    (s.changeMode m).arbiter = s.arbiter ∧ (s.changeMode m).port = s.port ∧ (s.changeMode m).walker = s.walker ∧
    (s.changeMode m).cues = s.cues ∧ (s.changeMode m).link = s.link ∧ (s.changeMode m).notices = s.notices ∧
    (s.changeMode m).pending = s.pending := by
  unfold State.changeMode; simp

@[simp] theorem State.periodElapsed_frame (s : State) :
    s.periodElapsed.run = s.run ∧ s.periodElapsed.osc = s.osc ∧ s.periodElapsed.draws = s.draws ∧
    s.periodElapsed.choices = s.choices ∧ s.periodElapsed.clock = s.clock ∧ s.periodElapsed.marks = s.marks ∧
    s.periodElapsed.due = s.due ∧ s.periodElapsed.events = s.events ∧ s.periodElapsed.products = s.products ∧
    s.periodElapsed.regions = s.regions ∧ s.periodElapsed.store = s.store ∧ s.periodElapsed.pacing = s.pacing ∧
    s.periodElapsed.arbiter = s.arbiter ∧ s.periodElapsed.cues = s.cues ∧ s.periodElapsed.pending = s.pending := by
  unfold State.periodElapsed; split <;> simp

@[simp] theorem State.quietElapsed_frame (s : State) :
    s.quietElapsed.run = s.run ∧ s.quietElapsed.osc = s.osc ∧ s.quietElapsed.draws = s.draws ∧
    s.quietElapsed.choices = s.choices ∧ s.quietElapsed.settings = s.settings ∧ s.quietElapsed.clock = s.clock ∧
    s.quietElapsed.marks = s.marks ∧ s.quietElapsed.due = s.due ∧ s.quietElapsed.events = s.events ∧
    s.quietElapsed.products = s.products ∧ s.quietElapsed.regions = s.regions ∧ s.quietElapsed.store = s.store ∧
    s.quietElapsed.pacing = s.pacing ∧ s.quietElapsed.arbiter = s.arbiter ∧ s.quietElapsed.walker = s.walker ∧
    s.quietElapsed.cues = s.cues ∧ s.quietElapsed.link = s.link ∧ s.quietElapsed.pending = s.pending := by
  unfold State.quietElapsed; split <;> simp

@[simp] theorem State.rollover_frame (s : State) :
    s.rollover.run = s.run ∧ s.rollover.osc = s.osc ∧ s.rollover.draws = s.draws ∧ s.rollover.choices = s.choices ∧
    s.rollover.sup = s.sup ∧ s.rollover.settings = s.settings ∧ s.rollover.marks = s.marks ∧
    s.rollover.events = s.events ∧ s.rollover.products = s.products ∧ s.rollover.regions = s.regions ∧
    s.rollover.store = s.store ∧ s.rollover.pacing = s.pacing ∧ s.rollover.arbiter = s.arbiter ∧
    s.rollover.port = s.port ∧ s.rollover.walker = s.walker ∧ s.rollover.cues = s.cues ∧ s.rollover.link = s.link ∧
    s.rollover.notices = s.notices ∧ s.rollover.pending = s.pending := by
  unfold State.rollover; dsimp only; split <;> simp

@[simp] theorem State.rephase_frame (s : State) (b : Bool) :
    (s.rephase b).run = s.run ∧ (s.rephase b).osc = s.osc ∧ (s.rephase b).draws = s.draws ∧
    (s.rephase b).choices = s.choices ∧ (s.rephase b).sup = s.sup ∧ (s.rephase b).settings = s.settings ∧
    (s.rephase b).marks = s.marks ∧ (s.rephase b).events = s.events ∧ (s.rephase b).products = s.products ∧
    (s.rephase b).regions = s.regions ∧ (s.rephase b).store = s.store ∧ (s.rephase b).pacing = s.pacing ∧
    (s.rephase b).arbiter = s.arbiter ∧ (s.rephase b).port = s.port ∧ (s.rephase b).walker = s.walker ∧
    (s.rephase b).cues = s.cues ∧ (s.rephase b).link = s.link ∧ (s.rephase b).notices = s.notices ∧
    (s.rephase b).pending = s.pending := by
  unfold State.rephase; dsimp only; split <;> simp

@[simp] theorem State.takePulse_frame (s : State) :
    s.takePulse.run = s.run ∧ s.takePulse.osc = s.osc ∧ s.takePulse.draws = s.draws ∧
    s.takePulse.choices = s.choices ∧ s.takePulse.sup = s.sup ∧ s.takePulse.settings = s.settings ∧
    s.takePulse.marks = s.marks ∧ s.takePulse.events = s.events ∧ s.takePulse.products = s.products ∧
    s.takePulse.regions = s.regions ∧ s.takePulse.store = s.store ∧ s.takePulse.pacing = s.pacing ∧
    s.takePulse.arbiter = s.arbiter ∧ s.takePulse.port = s.port ∧ s.takePulse.walker = s.walker ∧
    s.takePulse.cues = s.cues ∧ s.takePulse.link = s.link ∧ s.takePulse.pending = s.pending := by
  unfold State.takePulse State.restoringPulse State.lockedPulse; dsimp only; (repeat' split) <;> simp

@[simp] theorem State.loseReference_frame (s : State) :
    s.loseReference.run = s.run ∧ s.loseReference.osc = s.osc ∧ s.loseReference.draws = s.draws ∧
    s.loseReference.choices = s.choices ∧ s.loseReference.sup = s.sup ∧ s.loseReference.settings = s.settings ∧
    s.loseReference.marks = s.marks ∧ s.loseReference.due = s.due ∧ s.loseReference.events = s.events ∧
    s.loseReference.products = s.products ∧ s.loseReference.regions = s.regions ∧ s.loseReference.store = s.store ∧
    s.loseReference.pacing = s.pacing ∧ s.loseReference.arbiter = s.arbiter ∧ s.loseReference.port = s.port ∧
    s.loseReference.walker = s.walker ∧ s.loseReference.cues = s.cues ∧ s.loseReference.link = s.link ∧
    s.loseReference.pending = s.pending := by
  unfold State.loseReference; split <;> simp

@[simp] theorem State.testStretched_frame (s : State) :
    s.testStretched.run = s.run ∧ s.testStretched.osc = s.osc ∧ s.testStretched.draws = s.draws ∧
    s.testStretched.choices = s.choices ∧ s.testStretched.sup = s.sup ∧ s.testStretched.settings = s.settings ∧
    s.testStretched.clock = s.clock ∧ s.testStretched.marks = s.marks ∧ s.testStretched.due = s.due ∧
    s.testStretched.events = s.events ∧ s.testStretched.products = s.products ∧ s.testStretched.regions = s.regions ∧
    s.testStretched.store = s.store ∧ s.testStretched.arbiter = s.arbiter ∧ s.testStretched.port = s.port ∧
    s.testStretched.walker = s.walker ∧ s.testStretched.cues = s.cues ∧ s.testStretched.link = s.link ∧
    s.testStretched.pending = s.pending := by
  unfold State.testStretched; dsimp only; (repeat' split) <;> simp

@[simp] theorem State.withCurrent_frame (s : State) (c : Settings) :
    (s.withCurrent c).run = s.run ∧ (s.withCurrent c).osc = s.osc ∧ (s.withCurrent c).draws = s.draws ∧
    (s.withCurrent c).choices = s.choices ∧ (s.withCurrent c).sup = s.sup ∧ (s.withCurrent c).clock = s.clock ∧
    (s.withCurrent c).marks = s.marks ∧ (s.withCurrent c).due = s.due ∧ (s.withCurrent c).events = s.events ∧
    (s.withCurrent c).products = s.products ∧ (s.withCurrent c).regions = s.regions ∧
    (s.withCurrent c).store = s.store ∧ (s.withCurrent c).pacing = s.pacing ∧ (s.withCurrent c).arbiter = s.arbiter ∧
    (s.withCurrent c).port = s.port ∧ (s.withCurrent c).walker = s.walker ∧ (s.withCurrent c).cues = s.cues ∧
    (s.withCurrent c).link = s.link ∧ (s.withCurrent c).notices = s.notices ∧ (s.withCurrent c).pending = s.pending := by
  simp [State.withCurrent]

@[simp] theorem State.setWindow_frame (s : State) (w : Nat) :
    (s.setWindow w).run = s.run ∧ (s.setWindow w).osc = s.osc ∧ (s.setWindow w).draws = s.draws ∧
    (s.setWindow w).choices = s.choices ∧ (s.setWindow w).sup = s.sup ∧ (s.setWindow w).clock = s.clock ∧
    (s.setWindow w).marks = s.marks ∧ (s.setWindow w).due = s.due ∧ (s.setWindow w).events = s.events ∧
    (s.setWindow w).products = s.products ∧ (s.setWindow w).regions = s.regions ∧ (s.setWindow w).store = s.store ∧
    (s.setWindow w).arbiter = s.arbiter ∧ (s.setWindow w).port = s.port ∧ (s.setWindow w).walker = s.walker ∧
    (s.setWindow w).cues = s.cues ∧ (s.setWindow w).link = s.link ∧ (s.setWindow w).pending = s.pending := by
  unfold State.setWindow; simp

@[simp] theorem State.takeSetting_frame (s : State) (i v : Nat) :
    (s.takeSetting i v).run = s.run ∧ (s.takeSetting i v).osc = s.osc ∧ (s.takeSetting i v).draws = s.draws ∧
    (s.takeSetting i v).choices = s.choices ∧ (s.takeSetting i v).clock = s.clock ∧
    (s.takeSetting i v).marks = s.marks ∧ (s.takeSetting i v).due = s.due ∧ (s.takeSetting i v).events = s.events ∧
    (s.takeSetting i v).products = s.products ∧ (s.takeSetting i v).regions = s.regions ∧
    (s.takeSetting i v).store = s.store ∧ (s.takeSetting i v).arbiter = s.arbiter ∧
    (s.takeSetting i v).port = s.port ∧ (s.takeSetting i v).walker = s.walker ∧ (s.takeSetting i v).cues = s.cues ∧
    (s.takeSetting i v).pending = s.pending := by
  unfold State.takeSetting; split <;> simp

end Sys2Proof.Machine
end

