-- ==== Sys2Proof/Laws/Carousel.lean ====
section
/-! SUPPORT. What the operations of pacing, carousel and sweep leave unchanged. -/

namespace Sys2Proof.Machine

@[simp] theorem State.closePass_frame (s : State) (l : List Nat) :
    (s.closePass l).run = s.run ∧ (s.closePass l).osc = s.osc ∧ (s.closePass l).draws = s.draws ∧
    (s.closePass l).choices = s.choices ∧ (s.closePass l).sup = s.sup ∧ (s.closePass l).settings = s.settings ∧
    (s.closePass l).clock = s.clock ∧ (s.closePass l).marks = s.marks ∧ (s.closePass l).events = s.events ∧
    (s.closePass l).products = s.products ∧ (s.closePass l).regions = s.regions ∧ (s.closePass l).store = s.store ∧
    (s.closePass l).pacing = s.pacing ∧ (s.closePass l).arbiter = s.arbiter ∧ (s.closePass l).port = s.port ∧
    (s.closePass l).walker = s.walker ∧ (s.closePass l).cues = s.cues ∧ (s.closePass l).link = s.link ∧
    (s.closePass l).notices = s.notices ∧ (s.closePass l).pending = s.pending := by
  simp [State.closePass]

@[simp] theorem State.markFiring_frame (s : State) :
    s.markFiring.run = s.run ∧ s.markFiring.osc = s.osc ∧ s.markFiring.draws = s.draws ∧ s.markFiring.sup = s.sup ∧
    s.markFiring.settings = s.settings ∧ s.markFiring.clock = s.clock ∧ s.markFiring.regions = s.regions ∧
    s.markFiring.store = s.store ∧ s.markFiring.pacing = s.pacing ∧ s.markFiring.port = s.port ∧
    s.markFiring.cues = s.cues ∧ s.markFiring.link = s.link ∧ s.markFiring.pending = s.pending := by
  unfold State.markFiring; split
  · simp
  · split
    · simp
    · split
      next t h =>
        have f := State.fireFirst_frame _ _ _ h
        split <;> simp [f]
      next => simp

@[simp] theorem State.setOverload_frame (s : State) (b : Bool) :
    (s.setOverload b).run = s.run ∧ (s.setOverload b).osc = s.osc ∧ (s.setOverload b).draws = s.draws ∧
    (s.setOverload b).choices = s.choices ∧ (s.setOverload b).sup = s.sup ∧ (s.setOverload b).settings = s.settings ∧
    (s.setOverload b).clock = s.clock ∧ (s.setOverload b).marks = s.marks ∧ (s.setOverload b).due = s.due ∧
    (s.setOverload b).events = s.events ∧ (s.setOverload b).products = s.products ∧
    (s.setOverload b).regions = s.regions ∧ (s.setOverload b).store = s.store ∧
    (s.setOverload b).arbiter = s.arbiter ∧ (s.setOverload b).port = s.port ∧ (s.setOverload b).walker = s.walker ∧
    (s.setOverload b).cues = s.cues ∧ (s.setOverload b).link = s.link ∧ (s.setOverload b).pending = s.pending := by
  unfold State.setOverload; dsimp only; split <;> simp

@[simp] theorem State.postLapses_frame (s : State) :
    s.postLapses.run = s.run ∧ s.postLapses.osc = s.osc ∧ s.postLapses.draws = s.draws ∧
    s.postLapses.choices = s.choices ∧ s.postLapses.sup = s.sup ∧ s.postLapses.settings = s.settings ∧
    s.postLapses.clock = s.clock ∧ s.postLapses.marks = s.marks ∧ s.postLapses.due = s.due ∧
    s.postLapses.events = s.events ∧ s.postLapses.products = s.products ∧ s.postLapses.regions = s.regions ∧
    s.postLapses.store = s.store ∧ s.postLapses.arbiter = s.arbiter ∧ s.postLapses.port = s.port ∧
    s.postLapses.walker = s.walker ∧ s.postLapses.cues = s.cues ∧ s.postLapses.link = s.link ∧
    s.postLapses.pending = s.pending := by
  unfold State.postLapses; split <;> simp

@[simp] theorem State.windowMark_frame (s : State) :
    s.windowMark.run = s.run ∧ s.windowMark.osc = s.osc ∧ s.windowMark.draws = s.draws ∧
    s.windowMark.choices = s.choices ∧ s.windowMark.sup = s.sup ∧ s.windowMark.settings = s.settings ∧
    s.windowMark.clock = s.clock ∧ s.windowMark.marks = s.marks ∧ s.windowMark.due = s.due ∧
    s.windowMark.events = s.events ∧ s.windowMark.products = s.products ∧ s.windowMark.regions = s.regions ∧
    s.windowMark.store = s.store ∧ s.windowMark.arbiter = s.arbiter ∧ s.windowMark.port = s.port ∧
    s.windowMark.walker = s.walker ∧ s.windowMark.cues = s.cues ∧ s.windowMark.link = s.link ∧
    s.windowMark.pending = s.pending := by
  unfold State.windowMark; simp

@[simp] theorem State.windowStep_frame (s : State) :
    s.windowStep.run = s.run ∧ s.windowStep.osc = s.osc ∧ s.windowStep.draws = s.draws ∧
    s.windowStep.choices = s.choices ∧ s.windowStep.sup = s.sup ∧ s.windowStep.settings = s.settings ∧
    s.windowStep.clock = s.clock ∧ s.windowStep.marks = s.marks ∧ s.windowStep.events = s.events ∧
    s.windowStep.products = s.products ∧ s.windowStep.regions = s.regions ∧ s.windowStep.store = s.store ∧
    s.windowStep.arbiter = s.arbiter ∧ s.windowStep.port = s.port ∧ s.windowStep.walker = s.walker ∧
    s.windowStep.cues = s.cues ∧ s.windowStep.link = s.link ∧ s.windowStep.pending = s.pending := by
  unfold State.windowStep; split <;> simp

@[simp] theorem State.checkInterval_frame (s : State) (i : Nat) :
    (s.checkInterval i).run = s.run ∧ (s.checkInterval i).osc = s.osc ∧ (s.checkInterval i).draws = s.draws ∧
    (s.checkInterval i).choices = s.choices ∧ (s.checkInterval i).sup = s.sup ∧
    (s.checkInterval i).settings = s.settings ∧ (s.checkInterval i).clock = s.clock ∧
    (s.checkInterval i).marks = s.marks ∧ (s.checkInterval i).due = s.due ∧ (s.checkInterval i).events = s.events ∧
    (s.checkInterval i).products = s.products ∧ (s.checkInterval i).regions = s.regions ∧
    (s.checkInterval i).store = s.store ∧ (s.checkInterval i).pacing = s.pacing ∧ (s.checkInterval i).port = s.port ∧
    (s.checkInterval i).walker = s.walker ∧ (s.checkInterval i).cues = s.cues ∧ (s.checkInterval i).link = s.link ∧
    (s.checkInterval i).notices = s.notices ∧ (s.checkInterval i).pending = s.pending := by
  unfold State.checkInterval; (repeat' split) <;> simp

@[simp] theorem State.announce_frame (s : State) (i : Nat) (e : EventEntry) :
    (s.announce i e).2.run = s.run ∧ (s.announce i e).2.osc = s.osc ∧ (s.announce i e).2.draws = s.draws ∧
    (s.announce i e).2.choices = s.choices ∧ (s.announce i e).2.sup = s.sup ∧
    (s.announce i e).2.settings = s.settings ∧ (s.announce i e).2.clock = s.clock ∧
    (s.announce i e).2.marks = s.marks ∧ (s.announce i e).2.due = s.due ∧ (s.announce i e).2.products = s.products ∧
    (s.announce i e).2.regions = s.regions ∧ (s.announce i e).2.store = s.store ∧
    (s.announce i e).2.pacing = s.pacing ∧ (s.announce i e).2.port = s.port ∧ (s.announce i e).2.walker = s.walker ∧
    (s.announce i e).2.cues = s.cues ∧ (s.announce i e).2.link = s.link ∧ (s.announce i e).2.notices = s.notices ∧
    (s.announce i e).2.pending = s.pending := by
  simp [State.announce]

@[simp] theorem State.takeSource_frame (s : State) (x : Source) :
    (s.takeSource x).2.run = s.run ∧ (s.takeSource x).2.osc = s.osc ∧ (s.takeSource x).2.draws = s.draws ∧
    (s.takeSource x).2.choices = s.choices ∧ (s.takeSource x).2.sup = s.sup ∧
    (s.takeSource x).2.settings = s.settings ∧ (s.takeSource x).2.clock = s.clock ∧
    (s.takeSource x).2.marks = s.marks ∧ (s.takeSource x).2.due = s.due ∧ (s.takeSource x).2.regions = s.regions ∧
    (s.takeSource x).2.port = s.port ∧ (s.takeSource x).2.walker = s.walker ∧ (s.takeSource x).2.cues = s.cues ∧
    (s.takeSource x).2.link = s.link ∧ (s.takeSource x).2.notices = s.notices ∧
    (s.takeSource x).2.pending = s.pending := by
  unfold State.takeSource; split <;> simp

@[simp] theorem State.loadFrame_frame (s : State) (x : Option FrameBody) :
    (s.loadFrame x).run = s.run ∧ (s.loadFrame x).osc = s.osc ∧ (s.loadFrame x).draws = s.draws ∧
    (s.loadFrame x).choices = s.choices ∧ (s.loadFrame x).sup = s.sup ∧ (s.loadFrame x).settings = s.settings ∧
    (s.loadFrame x).clock = s.clock ∧ (s.loadFrame x).marks = s.marks ∧ (s.loadFrame x).due = s.due ∧
    (s.loadFrame x).events = s.events ∧ (s.loadFrame x).products = s.products ∧ (s.loadFrame x).regions = s.regions ∧
    (s.loadFrame x).store = s.store ∧ (s.loadFrame x).pacing = s.pacing ∧ (s.loadFrame x).walker = s.walker ∧
    (s.loadFrame x).cues = s.cues ∧ (s.loadFrame x).link = s.link ∧ (s.loadFrame x).notices = s.notices ∧
    (s.loadFrame x).pending = s.pending := by
  simp [State.loadFrame]

@[simp] theorem State.answerGrant_frame (s : State) (n : Nat) :
    (s.answerGrant n).run = s.run ∧ (s.answerGrant n).osc = s.osc ∧ (s.answerGrant n).draws = s.draws ∧
    (s.answerGrant n).choices = s.choices ∧ (s.answerGrant n).sup = s.sup ∧ (s.answerGrant n).settings = s.settings ∧
    (s.answerGrant n).clock = s.clock ∧ (s.answerGrant n).marks = s.marks ∧ (s.answerGrant n).due = s.due ∧
    (s.answerGrant n).regions = s.regions ∧ (s.answerGrant n).walker = s.walker ∧ (s.answerGrant n).cues = s.cues ∧
    (s.answerGrant n).link = s.link ∧ (s.answerGrant n).notices = s.notices ∧ (s.answerGrant n).pending = s.pending := by
  unfold State.answerGrant; simp

@[simp] theorem State.starve_frame (s : State) :
    s.starve.run = s.run ∧ s.starve.osc = s.osc ∧ s.starve.draws = s.draws ∧ s.starve.choices = s.choices ∧
    s.starve.sup = s.sup ∧ s.starve.settings = s.settings ∧ s.starve.clock = s.clock ∧ s.starve.marks = s.marks ∧
    s.starve.due = s.due ∧ s.starve.events = s.events ∧ s.starve.products = s.products ∧
    s.starve.regions = s.regions ∧ s.starve.store = s.store ∧ s.starve.pacing = s.pacing ∧
    s.starve.arbiter = s.arbiter ∧ s.starve.walker = s.walker ∧ s.starve.cues = s.cues ∧ s.starve.link = s.link ∧
    s.starve.pending = s.pending := by
  unfold State.starve; split <;> simp

@[simp] theorem State.jobAction_frame (s : State) (k : JobKind) (r : GrantRecord) :
    (s.jobAction k r).2.run = s.run ∧ (s.jobAction k r).2.osc = s.osc ∧ (s.jobAction k r).2.draws = s.draws ∧
    (s.jobAction k r).2.choices = s.choices ∧ (s.jobAction k r).2.sup = s.sup ∧
    (s.jobAction k r).2.settings = s.settings ∧ (s.jobAction k r).2.clock = s.clock ∧
    (s.jobAction k r).2.marks = s.marks ∧ (s.jobAction k r).2.due = s.due ∧ (s.jobAction k r).2.events = s.events ∧
    (s.jobAction k r).2.regions = s.regions ∧ (s.jobAction k r).2.pacing = s.pacing ∧
    (s.jobAction k r).2.arbiter = s.arbiter ∧ (s.jobAction k r).2.port = s.port ∧
    (s.jobAction k r).2.walker = s.walker ∧ (s.jobAction k r).2.cues = s.cues ∧ (s.jobAction k r).2.link = s.link ∧
    (s.jobAction k r).2.notices = s.notices ∧ (s.jobAction k r).2.pending = s.pending := by
  unfold State.jobAction; split <;> simp

@[simp] theorem State.visit_frame (s : State) :
    s.visit.run = s.run ∧ s.visit.osc = s.osc ∧ s.visit.draws = s.draws ∧ s.visit.choices = s.choices ∧
    s.visit.sup = s.sup ∧ s.visit.settings = s.settings ∧ s.visit.clock = s.clock ∧ s.visit.marks = s.marks ∧
    s.visit.due = s.due ∧ s.visit.events = s.events ∧ s.visit.regions = s.regions ∧ s.visit.pacing = s.pacing ∧
    s.visit.arbiter = s.arbiter ∧ s.visit.port = s.port ∧ s.visit.cues = s.cues ∧ s.visit.link = s.link ∧
    s.visit.pending = s.pending := by
  unfold State.visit; (repeat' split) <;> (try dsimp only) <;> (try split) <;> simp

end Sys2Proof.Machine
end

