-- ==== Sys2Proof/Laws/Cues.lean ====
section
/-! SUPPORT. What the operations of cue lines, tables and the receiver leave unchanged. -/

namespace Sys2Proof.Machine

@[simp] theorem State.setLine_frame (s : State) (n : Nat) (l : CueLine) :
    (s.setLine n l).run = s.run ∧ (s.setLine n l).osc = s.osc ∧ (s.setLine n l).draws = s.draws ∧
    (s.setLine n l).choices = s.choices ∧ (s.setLine n l).sup = s.sup ∧ (s.setLine n l).settings = s.settings ∧
    (s.setLine n l).clock = s.clock ∧ (s.setLine n l).marks = s.marks ∧ (s.setLine n l).due = s.due ∧
    (s.setLine n l).events = s.events ∧ (s.setLine n l).products = s.products ∧ (s.setLine n l).regions = s.regions ∧
    (s.setLine n l).store = s.store ∧ (s.setLine n l).pacing = s.pacing ∧ (s.setLine n l).arbiter = s.arbiter ∧
    (s.setLine n l).port = s.port ∧ (s.setLine n l).walker = s.walker ∧ (s.setLine n l).link = s.link ∧
    (s.setLine n l).notices = s.notices ∧ (s.setLine n l).pending = s.pending := by
  simp [State.setLine]

@[simp] theorem State.refreshFlags_frame (s : State) (l : List (Option Nat)) :
    (s.refreshFlags l).run = s.run ∧ (s.refreshFlags l).osc = s.osc ∧ (s.refreshFlags l).draws = s.draws ∧
    (s.refreshFlags l).choices = s.choices ∧ (s.refreshFlags l).sup = s.sup ∧
    (s.refreshFlags l).settings = s.settings ∧ (s.refreshFlags l).clock = s.clock ∧ (s.refreshFlags l).due = s.due ∧
    (s.refreshFlags l).products = s.products ∧ (s.refreshFlags l).regions = s.regions ∧
    (s.refreshFlags l).store = s.store ∧ (s.refreshFlags l).pacing = s.pacing ∧
    (s.refreshFlags l).arbiter = s.arbiter ∧ (s.refreshFlags l).port = s.port ∧
    (s.refreshFlags l).walker = s.walker ∧ (s.refreshFlags l).cues = s.cues ∧ (s.refreshFlags l).link = s.link ∧
    (s.refreshFlags l).notices = s.notices ∧ (s.refreshFlags l).pending = s.pending := by
  unfold State.refreshFlags
  induction l.filterMap id generalizing s with
  | nil => simp
  | cons x xs ih => simp [ih]

@[simp] theorem State.pinChange_frame (s : State) (n : Nat) (b : Bool) :
    (s.pinChange n b).run = s.run ∧ (s.pinChange n b).osc = s.osc ∧ (s.pinChange n b).draws = s.draws ∧
    (s.pinChange n b).choices = s.choices ∧ (s.pinChange n b).sup = s.sup ∧ (s.pinChange n b).settings = s.settings ∧
    (s.pinChange n b).clock = s.clock ∧ (s.pinChange n b).marks = s.marks ∧ (s.pinChange n b).due = s.due ∧
    (s.pinChange n b).events = s.events ∧ (s.pinChange n b).products = s.products ∧
    (s.pinChange n b).regions = s.regions ∧ (s.pinChange n b).store = s.store ∧ (s.pinChange n b).pacing = s.pacing ∧
    (s.pinChange n b).arbiter = s.arbiter ∧ (s.pinChange n b).port = s.port ∧ (s.pinChange n b).walker = s.walker ∧
    (s.pinChange n b).link = s.link ∧ (s.pinChange n b).notices = s.notices ∧ (s.pinChange n b).pending = s.pending := by
  unfold State.pinChange; dsimp only; (repeat' split) <;> simp

@[simp] theorem State.beginEpisode_frame (s : State) (n : Nat) (l : CueLine) :
    (s.beginEpisode n l).run = s.run ∧ (s.beginEpisode n l).osc = s.osc ∧ (s.beginEpisode n l).draws = s.draws ∧
    (s.beginEpisode n l).choices = s.choices ∧ (s.beginEpisode n l).sup = s.sup ∧
    (s.beginEpisode n l).settings = s.settings ∧ (s.beginEpisode n l).clock = s.clock ∧
    (s.beginEpisode n l).marks = s.marks ∧ (s.beginEpisode n l).due = s.due ∧
    (s.beginEpisode n l).events = s.events ∧ (s.beginEpisode n l).products = s.products ∧
    (s.beginEpisode n l).regions = s.regions ∧ (s.beginEpisode n l).store = s.store ∧
    (s.beginEpisode n l).pacing = s.pacing ∧ (s.beginEpisode n l).arbiter = s.arbiter ∧
    (s.beginEpisode n l).port = s.port ∧ (s.beginEpisode n l).walker = s.walker ∧
    (s.beginEpisode n l).link = s.link ∧ (s.beginEpisode n l).pending = s.pending := by
  unfold State.beginEpisode; dsimp only; split <;> simp

@[simp] theorem State.acceptEdge_frame (s : State) (n now : Nat) :
    (s.acceptEdge n now).run = s.run ∧ (s.acceptEdge n now).osc = s.osc ∧ (s.acceptEdge n now).draws = s.draws ∧
    (s.acceptEdge n now).sup = s.sup ∧ (s.acceptEdge n now).settings = s.settings ∧
    (s.acceptEdge n now).clock = s.clock ∧ (s.acceptEdge n now).regions = s.regions ∧
    (s.acceptEdge n now).store = s.store ∧ (s.acceptEdge n now).pacing = s.pacing ∧
    (s.acceptEdge n now).port = s.port ∧ (s.acceptEdge n now).link = s.link ∧
    (s.acceptEdge n now).pending = s.pending := by
  unfold State.acceptEdge; dsimp only; (repeat' split) <;> simp

@[simp] theorem State.endCooling_frame (s : State) (n : Nat) :
    (s.endCooling n).run = s.run ∧ (s.endCooling n).osc = s.osc ∧ (s.endCooling n).draws = s.draws ∧
    (s.endCooling n).sup = s.sup ∧ (s.endCooling n).settings = s.settings ∧ (s.endCooling n).clock = s.clock ∧
    (s.endCooling n).regions = s.regions ∧ (s.endCooling n).store = s.store ∧ (s.endCooling n).pacing = s.pacing ∧
    (s.endCooling n).port = s.port ∧ (s.endCooling n).link = s.link ∧ (s.endCooling n).pending = s.pending := by
  unfold State.endCooling; dsimp only; (repeat' split) <;> simp

@[simp] theorem State.settlingDone_frame (s : State) :
    s.settlingDone.run = s.run ∧ s.settlingDone.osc = s.osc ∧ s.settlingDone.draws = s.draws ∧
    s.settlingDone.choices = s.choices ∧ s.settlingDone.settings = s.settings ∧ s.settlingDone.clock = s.clock ∧
    s.settlingDone.marks = s.marks ∧ s.settlingDone.due = s.due ∧ s.settlingDone.events = s.events ∧
    s.settlingDone.products = s.products ∧ s.settlingDone.regions = s.regions ∧ s.settlingDone.store = s.store ∧
    s.settlingDone.pacing = s.pacing ∧ s.settlingDone.arbiter = s.arbiter ∧ s.settlingDone.walker = s.walker ∧
    s.settlingDone.link = s.link ∧ s.settlingDone.pending = s.pending := by
  unfold State.settlingDone; dsimp only; (repeat' split) <;> simp

@[simp] theorem State.announceAll_frame (s : State) (l : List Nat) :
    (s.announceAll l).run = s.run ∧ (s.announceAll l).osc = s.osc ∧ (s.announceAll l).draws = s.draws ∧
    (s.announceAll l).choices = s.choices ∧ (s.announceAll l).sup = s.sup ∧ (s.announceAll l).settings = s.settings ∧
    (s.announceAll l).clock = s.clock ∧ (s.announceAll l).marks = s.marks ∧ (s.announceAll l).due = s.due ∧
    (s.announceAll l).events = s.events ∧ (s.announceAll l).products = s.products ∧
    (s.announceAll l).regions = s.regions ∧ (s.announceAll l).store = s.store ∧ (s.announceAll l).pacing = s.pacing ∧
    (s.announceAll l).port = s.port ∧ (s.announceAll l).walker = s.walker ∧ (s.announceAll l).cues = s.cues ∧
    (s.announceAll l).link = s.link ∧ (s.announceAll l).notices = s.notices ∧ (s.announceAll l).pending = s.pending := by
  unfold State.announceAll
  induction l generalizing s with
  | nil => simp
  | cons x xs ih => simp [ih]

@[simp] theorem State.setProduct_frame (s : State) (p : Nat) (d : Option ProductDef) :
    (s.setProduct p d).run = s.run ∧ (s.setProduct p d).osc = s.osc ∧ (s.setProduct p d).draws = s.draws ∧
    (s.setProduct p d).choices = s.choices ∧ (s.setProduct p d).sup = s.sup ∧
    (s.setProduct p d).settings = s.settings ∧ (s.setProduct p d).clock = s.clock ∧
    (s.setProduct p d).marks = s.marks ∧ (s.setProduct p d).due = s.due ∧ (s.setProduct p d).events = s.events ∧
    (s.setProduct p d).regions = s.regions ∧ (s.setProduct p d).store = s.store ∧
    (s.setProduct p d).pacing = s.pacing ∧ (s.setProduct p d).arbiter = s.arbiter ∧
    (s.setProduct p d).port = s.port ∧ (s.setProduct p d).walker = s.walker ∧ (s.setProduct p d).cues = s.cues ∧
    (s.setProduct p d).link = s.link ∧ (s.setProduct p d).notices = s.notices ∧
    (s.setProduct p d).pending = s.pending := by
  simp [State.setProduct]

@[simp] theorem State.restartIdle_frame (s : State) :
    s.restartIdle.run = s.run ∧ s.restartIdle.osc = s.osc ∧ s.restartIdle.draws = s.draws ∧
    s.restartIdle.choices = s.choices ∧ s.restartIdle.sup = s.sup ∧ s.restartIdle.settings = s.settings ∧
    s.restartIdle.clock = s.clock ∧ s.restartIdle.marks = s.marks ∧ s.restartIdle.due = s.due ∧
    s.restartIdle.events = s.events ∧ s.restartIdle.products = s.products ∧ s.restartIdle.regions = s.regions ∧
    s.restartIdle.store = s.store ∧ s.restartIdle.pacing = s.pacing ∧ s.restartIdle.arbiter = s.arbiter ∧
    s.restartIdle.port = s.port ∧ s.restartIdle.walker = s.walker ∧ s.restartIdle.cues = s.cues ∧
    s.restartIdle.notices = s.notices ∧ s.restartIdle.pending = s.pending := by
  simp [State.restartIdle]

@[simp] theorem State.completeFrame_frame (s : State) (b : List Byte) :
    (s.completeFrame b).run = s.run ∧ (s.completeFrame b).osc = s.osc ∧ (s.completeFrame b).draws = s.draws ∧
    (s.completeFrame b).choices = s.choices ∧ (s.completeFrame b).settings = s.settings ∧
    (s.completeFrame b).clock = s.clock ∧ (s.completeFrame b).marks = s.marks ∧ (s.completeFrame b).due = s.due ∧
    (s.completeFrame b).events = s.events ∧ (s.completeFrame b).products = s.products ∧
    (s.completeFrame b).regions = s.regions ∧ (s.completeFrame b).store = s.store ∧
    (s.completeFrame b).pacing = s.pacing ∧ (s.completeFrame b).arbiter = s.arbiter ∧
    (s.completeFrame b).cues = s.cues ∧ (s.completeFrame b).pending = s.pending := by
  unfold State.completeFrame; split <;> simp

@[simp] theorem State.receiveByte_frame (s : State) (b : Byte) :
    (s.receiveByte b).run = s.run ∧ (s.receiveByte b).osc = s.osc ∧ (s.receiveByte b).draws = s.draws ∧
    (s.receiveByte b).choices = s.choices ∧ (s.receiveByte b).settings = s.settings ∧
    (s.receiveByte b).clock = s.clock ∧ (s.receiveByte b).marks = s.marks ∧ (s.receiveByte b).due = s.due ∧
    (s.receiveByte b).events = s.events ∧ (s.receiveByte b).products = s.products ∧
    (s.receiveByte b).regions = s.regions ∧ (s.receiveByte b).store = s.store ∧ (s.receiveByte b).pacing = s.pacing ∧
    (s.receiveByte b).arbiter = s.arbiter ∧ (s.receiveByte b).cues = s.cues ∧ (s.receiveByte b).pending = s.pending := by
  unfold State.receiveByte; dsimp only; (repeat' split) <;> simp

@[simp] theorem State.gapPassed_frame (s : State) :
    s.gapPassed.run = s.run ∧ s.gapPassed.osc = s.osc ∧ s.gapPassed.draws = s.draws ∧
    s.gapPassed.choices = s.choices ∧ s.gapPassed.settings = s.settings ∧ s.gapPassed.clock = s.clock ∧
    s.gapPassed.marks = s.marks ∧ s.gapPassed.due = s.due ∧ s.gapPassed.events = s.events ∧
    s.gapPassed.products = s.products ∧ s.gapPassed.regions = s.regions ∧ s.gapPassed.store = s.store ∧
    s.gapPassed.pacing = s.pacing ∧ s.gapPassed.arbiter = s.arbiter ∧ s.gapPassed.cues = s.cues ∧
    s.gapPassed.pending = s.pending := by
  unfold State.gapPassed; split <;> simp

@[simp] theorem State.armHunt_frame (s : State) :
    s.armHunt.run = s.run ∧ s.armHunt.osc = s.osc ∧ s.armHunt.draws = s.draws ∧ s.armHunt.choices = s.choices ∧
    s.armHunt.sup = s.sup ∧ s.armHunt.settings = s.settings ∧ s.armHunt.clock = s.clock ∧ s.armHunt.marks = s.marks ∧
    s.armHunt.due = s.due ∧ s.armHunt.events = s.events ∧ s.armHunt.products = s.products ∧
    s.armHunt.regions = s.regions ∧ s.armHunt.store = s.store ∧ s.armHunt.pacing = s.pacing ∧
    s.armHunt.arbiter = s.arbiter ∧ s.armHunt.port = s.port ∧ s.armHunt.walker = s.walker ∧ s.armHunt.cues = s.cues ∧
    s.armHunt.notices = s.notices ∧ s.armHunt.pending = s.pending := by
  unfold State.armHunt; split <;> simp

end Sys2Proof.Machine
end

