-- ==== Sys2Proof/Laws/Idle.lean ====
section
/-! SUPPORT. What the block does by itself: a passing millisecond, and the idle step. -/

namespace Sys2Proof.Machine

/-- The clock one millisecond later (R125, R129). -/
@[simp] theorem State.tick_clock (s : State) :
    s.tick.clock =
      { s.clock with
        ms := if 999 ≤ s.clock.ms then s.clock.ms else s.clock.ms + 1
        hold := if s.clock.hold = 1 then 1 else s.clock.hold - 1
        loss := s.clock.loss.map (· - 1) } := rfl

/-- The rows of the clock that a millisecond makes due: the return before the end of a hold (R125, R129). -/
@[simp] theorem State.tick_pending (s : State) :
    s.tick.pending =
      s.pending ++ (dueIf (999 ≤ s.clock.ms) .msRollover ++ dueIf (s.clock.hold = 1) .holdExpires) := rfl

@[simp] theorem State.tick_frame (s : State) :
    s.tick.run = s.run ∧ s.tick.osc = s.osc + 1 ∧ s.tick.draws = s.draws ∧ s.tick.choices = s.choices ∧
    s.tick.marks = s.marks ∧ s.tick.due = s.due ∧ s.tick.events = s.events ∧ s.tick.products = s.products ∧
    s.tick.regions = s.regions ∧ s.tick.store = s.store ∧ s.tick.arbiter = s.arbiter ∧ s.tick.walker = s.walker ∧
    s.tick.notices = s.notices :=
  ⟨rfl, rfl, rfl, rfl, rfl, rfl, rfl, rfl, rfl, rfl, rfl, rfl, rfl⟩

/-- All that a millisecond does, where the queue is empty (R125, R126, R129). -/
theorem State.tick_eq (s : State) (h : s.pending = []) : s.tick = s.millisecondLater := by
  have hl : s.cues.lines.map CueLine.tick = s.millisecondLater.cues.lines :=
    List.map_congr_left fun l _ => by
      unfold CueLine.tick
      split <;> rename_i hs <;> simp [tickTimer, hs]
  by_cases hm : s.clock.ms < 999 <;> by_cases hh : s.clock.hold = 1 <;>
    simp [State.tick, State.tickTimers, State.tickClock, hl, hm, hh, h, State.withSup, State.withSettings, State.withPacing,
      State.withPort, State.withCues, State.withLink, State.withClock, State.withPending, dueIf, Nat.not_le.mpr,
      Nat.not_lt.mp, State.millisecondLater, tickTimer]

/-! ### Rows that are due -/

theorem mem_dueIf (b : Bool) (c d : Instr) : c ∈ dueIf b d ↔ b = true ∧ c = d := by
  cases b <;> simp [dueIf]

theorem CueMonitor.mem_rows (q : CueMonitor) (now : Nat) (c : Instr) :
    c ∈ q.rows now ↔
      (∃ n reference history, c = .debounceExpiry n now ∧ (q.line n).state = .armed reference (some 0) history) ∨
      ∃ n, c = .coolingTimerExpiry n ∧ (q.line n).state = .cooling 0 := by
  have key : c ∈ q.rows now ↔ ∃ n l, q.lines[n]? = some l ∧
      ((c = .debounceExpiry n now ∧ ∃ reference history, l.state = .armed reference (some 0) history) ∨
        (c = .coolingTimerExpiry n ∧ l.state = .cooling 0)) := by
    unfold CueMonitor.rows
    simp only [List.mem_flatMap, Prod.exists, List.mem_zipIdx_iff_getElem?]
    constructor
    · rintro ⟨l, n, hl, hc⟩
      refine ⟨n, l, hl, ?_⟩
      split at hc <;> simp_all
    · rintro ⟨n, l, hl, hc⟩
      refine ⟨l, n, hl, ?_⟩
      rcases hc with ⟨rfl, r, h, hs⟩ | ⟨rfl, hs⟩ <;> simp [hs]
  rw [key]
  have hl (n : Nat) (l : CueLine) (h : q.lines[n]? = some l) : q.line n = l := by simp [CueMonitor.line, h]
  have hu (n : Nat) (h : (q.line n).state ≠ .unbound) : q.lines[n]? = some (q.line n) := by
    unfold CueMonitor.line at h ⊢
    cases hn : q.lines[n]? with
    | none => simp [hn, CueLine.unbound] at h
    | some l => simp [hn]
  constructor
  · rintro ⟨n, l, h, ⟨rfl, r, y, hs⟩ | ⟨rfl, hs⟩⟩
    · exact .inl ⟨n, r, y, rfl, by rw [hl n l h, hs]⟩
    · exact .inr ⟨n, rfl, by rw [hl n l h, hs]⟩
  · rintro (⟨n, r, y, rfl, hs⟩ | ⟨n, rfl, hs⟩)
    · exact ⟨n, _, hu n (by simp [hs]), .inl ⟨rfl, r, y, hs⟩⟩
    · exact ⟨n, _, hu n (by simp [hs]), .inr ⟨rfl, hs⟩⟩

theorem Link.mem_nextCommand (l : Link) (c : Instr) :
    c ∈ l.nextCommand ↔ l.free = true ∧ ∃ frame rest, l.holding = frame :: rest ∧ decodeFrame frame = some c := by
  unfold Link.nextCommand
  cases hh : l.holding <;> cases hf : l.free <;> simp

theorem Framing.mem_rows (f : Framing) (gap baud : Nat) (c : Instr) :
    c ∈ f.rows gap baud ↔
      ((f = .hunt false ∧ 40 * 1000 ≤ gap * baud) ∧ c = .huntArmed) ∨
      (((∃ bytes, f = .inFrame bytes) ∧ 100 * 1000 < gap * baud) ∧ c = .byteGapExpiry) := by
  unfold Framing.rows
  cases f <;> simp [mem_dueIf]

theorem State.mem_linkRows (s : State) (c : Instr) :
    c ∈ s.linkRows ↔
      ((∃ kind tag items, s.link.service = some ⟨kind, tag, .items items⟩) ∧ c = .batchItem) ∨
      ((∃ snapshot, s.settings.writing = some (snapshot, 0)) ∧ c = .saveSettingsWriteComplete) ∨
      (s.link.tx ≠ [] ∧ c = .replySent) ∨
      (((s.link.service = none ∧ s.link.tx = []) ∧ s.link.resetDue = some .tables) ∧ c = .resetTablesActs) ∨
      (((s.link.service = none ∧ s.link.tx = []) ∧ s.link.resetDue = some .full) ∧ c = .resetFullActs) ∨
      (s.link.free = true ∧ ∃ frame rest, s.link.holding = frame :: rest ∧ decodeFrame frame = some c) ∨
      ((∃ b, s.link.batch = some b ∧ b.idle = 0) ∧ c = .batchIdleTimeout) := by
  have h1 : (match s.link.service with
      | some v => v.hasItems
      | none => false) = true ↔ ∃ kind tag items, s.link.service = some ⟨kind, tag, .items items⟩ := by
    rcases s.link.service with _ | ⟨kind, tag, work⟩
    · simp
    · cases work <;> simp [Service.hasItems]
  have h2 : (match s.settings.writing with
      | some (_, left) => left == 0
      | none => false) = true ↔ ∃ snapshot, s.settings.writing = some (snapshot, 0) := by
    rcases s.settings.writing with _ | ⟨snapshot, left⟩ <;> simp
  have h3 : (match s.link.batch with
      | some b => b.idle == 0
      | none => false) = true ↔ ∃ b, s.link.batch = some b ∧ b.idle = 0 := by
    cases s.link.batch <;> simp
  have h4 : (c ∈ if s.link.service.isNone && s.link.tx.isEmpty then
        match s.link.resetDue with
        | some .tables => [Instr.resetTablesActs]
        | some .full => [Instr.resetFullActs]
        | none => []
      else []) ↔
      (((s.link.service = none ∧ s.link.tx = []) ∧ s.link.resetDue = some .tables) ∧ c = .resetTablesActs) ∨
      (((s.link.service = none ∧ s.link.tx = []) ∧ s.link.resetDue = some .full) ∧ c = .resetFullActs) := by
    by_cases hi : s.link.service = none ∧ s.link.tx = []
    · rcases s.link.resetDue with _ | (_ | _) <;> simp [hi]
    · have hf : (s.link.service.isNone && s.link.tx.isEmpty) = false := by
        simpa [Option.isNone_iff_eq_none, Bool.eq_false_iff] using hi
      simp [hi, hf]
  unfold State.linkRows
  simp only [List.mem_append, mem_dueIf, Link.mem_nextCommand, Bool.not_eq_true', List.isEmpty_eq_false_iff, or_assoc]
  exact or_congr (and_congr_left fun _ => h1) (or_congr (and_congr_left fun _ => h2) (or_congr Iff.rfl
    ((or_congr h4 (or_congr Iff.rfl (and_congr_left fun _ => h3))).trans or_assoc)))

theorem State.mem_timedRows (s : State) (c : Instr) :
    c ∈ s.timedRows ↔
      (s.due.passes ≠ [] ∧ c = .markFiring) ∨ (0 < s.due.window ∧ c = .windowStep) ∨
      (0 < s.due.announce ∧ c = .announceIntervalCheck) ∨ (s.walker.running ≠ none ∧ c = .sweepVisit) ∨
      (s.pacing.rateIn = 0 ∧ c = .rateInterval) ∨ (s.clock.loss = some 0 ∧ c = .lossTimerExpiry) ∨
      (s.port.starvation = some 0 ∧ c = .starvationTimerExpiry) ∨
      (s.cues.settling = some 0 ∧ c = .settlingTimerExpiry) ∨
      ((∃ p, s.sup.period = some p ∧ p.length ≤ p.elapsed) ∧ c = .periodTimerExpiry) ∨
      (s.sup.configTimer = some 0 ∧ c = .configuringWindowExpiry) ∨ (s.sup.quiet = some 0 ∧ c = .quietTimerExpiry) := by
  have h1 : (match s.sup.period with
      | some p => p.length ≤ p.elapsed
      | none => false) = true ↔ ∃ p, s.sup.period = some p ∧ p.length ≤ p.elapsed := by
    cases s.sup.period <;> simp
  unfold State.timedRows expired
  simp only [List.mem_append, mem_dueIf, beq_iff_eq, decide_eq_true_eq, Bool.not_eq_true', List.isEmpty_eq_false_iff,
    Option.isSome_iff_ne_none, or_assoc]
  iterate 8 refine or_congr Iff.rfl ?_
  exact or_congr (and_congr_left fun _ => h1) Iff.rfl

/-- The rows that the block queues are those that are due (R126, R174). -/
theorem State.mem_dueRows (s : State) (c : Instr) : c ∈ s.dueRows ↔ s.RowDue c := by
  have key (n now : Nat) :
      (∃ m reference history, Instr.debounceExpiry n now = .debounceExpiry m s.osc ∧
        (s.cues.line m).state = .armed reference (some 0) history) ↔
      now = s.osc ∧ ∃ reference history, (s.cues.line n).state = .armed reference (some 0) history :=
    ⟨by rintro ⟨m, r, y, h, hs⟩; cases h; exact ⟨rfl, r, y, hs⟩, by rintro ⟨rfl, r, y, hs⟩; exact ⟨n, r, y, rfl, hs⟩⟩
  simp only [State.dueRows, List.mem_append, State.mem_linkRows, Framing.mem_rows, State.mem_timedRows,
    CueMonitor.mem_rows, State.RowDue]
  cases c
  case debounceExpiry n now => rw [key]; simp [or_comm]
  all_goals simp [or_comm]
/-! ### The idle step -/

/-- The idle block does nothing while it is held, puts one row that is due into its queue, or lets a millisecond pass
(logs 1, 2 and 23). -/
theorem State.idle_cases {s t : State} (h : s.idle = t) :
    (s.run ≠ .running ∧ t = s) ∨ (s.run = .running ∧ s.dueRows = [] ∧ t = s.tick) ∨
    (s.run = .running ∧
      (t = s.withPending t.pending ∨ t = ({ s with choices := s.choices + 1 } : State).withPending t.pending) ∧
      ∃ c ∈ s.dueRows, t.pending = [c]) := by
  subst h
  by_cases hr : s.run = .running
  · cases hd : s.dueRows with
    | nil => simp [State.idle, hr, hd]
    | cons c l =>
      cases l with
      | nil => simp [State.idle, hr, hd]
      | cons c' rest =>
        refine .inr (.inr ⟨hr, .inr ?_, ?_⟩)
        · simp [State.idle, hr, hd]
        · refine ⟨(c :: c' :: rest).getD (Config.dueChoice s.choices % (c :: c' :: rest).length) c, ?_, ?_⟩
          · have hl : Config.dueChoice s.choices % (c :: c' :: rest).length < (c :: c' :: rest).length :=
              Nat.mod_lt _ (by simp)
            rw [List.getD_eq_getElem?_getD, List.getElem?_eq_getElem hl]
            exact List.getElem_mem hl
          · simp [State.idle, hr, hd]
  · simp [State.idle, hr]

end Sys2Proof.Machine
end

