-- ==== Sys2Proof/Laws/Taken.lean ====
section
/-! SUPPORT. A command of the Order Link on a ready part: taken, checked against mode and length, and served by its rule. -/

namespace Sys2Proof.Machine

/-- What a free link holds: nothing in service, at the transmitter, waiting, or due (R174). -/
theorem State.ready_link (s : State) (h : s.ready) :
    s.run = .running ∧ s.link.service = none ∧ s.link.tx = [] ∧ s.link.unsolicited = none ∧ s.link.resetDue = none := by
  obtain ⟨hr, hf⟩ := h
  simp only [Link.free, Bool.and_eq_true, Option.isNone_iff_eq_none, List.isEmpty_iff] at hf
  exact ⟨hr, hf.1.1.1, hf.1.1.2, hf.1.2, hf.2⟩

/-- Taking a command changes the link alone. -/
@[simp] theorem State.taken_frame (s : State) (c : Instr) :
    (s.taken c).run = s.run ∧ (s.taken c).osc = s.osc ∧ (s.taken c).draws = s.draws ∧
    (s.taken c).choices = s.choices ∧ (s.taken c).sup = s.sup ∧ (s.taken c).settings = s.settings ∧
    (s.taken c).clock = s.clock ∧ (s.taken c).marks = s.marks ∧ (s.taken c).due = s.due ∧
    (s.taken c).events = s.events ∧ (s.taken c).products = s.products ∧ (s.taken c).regions = s.regions ∧
    (s.taken c).store = s.store ∧ (s.taken c).pacing = s.pacing ∧ (s.taken c).arbiter = s.arbiter ∧
    (s.taken c).port = s.port ∧ (s.taken c).walker = s.walker ∧ (s.taken c).cues = s.cues ∧
    (s.taken c).notices = s.notices ∧ (s.taken c).pending = s.pending := by
  simp [State.taken]

/-- The link with a command taken. -/
@[simp] theorem State.taken_link (s : State) (c : Instr) :
    (s.taken c).link.framing = s.link.framing ∧ (s.taken c).link.lastByte = s.link.lastByte ∧
    (s.taken c).link.errors = s.link.errors ∧ (s.taken c).link.unsolicited = s.link.unsolicited ∧
    (s.taken c).link.resetDue = s.link.resetDue ∧
    (s.taken c).link.service = some ⟨kindOf c, (hdrOf c).tag, .replying⟩ ∧
    (s.taken c).link.tx = s.link.cutSummary (kindOf c) ∧ (s.taken c).link.batch = s.link.cutBatch (kindOf c) := by
  simp [State.taken]

/-- On a ready part the service of a command begins with the command taken. -/
theorem State.begin_ready (s : State) (c : Instr) (h : s.ready) : s.begin c = s.taken c := by
  obtain ⟨_, _, ht, _, _⟩ := s.ready_link h
  simp [State.begin, State.settle_free s h.2, State.taken, Link.cutSummary, Link.cutBatch, ht]

/-- A command on a ready part (R174). -/
theorem serve_ready (c : Instr) (rule : State → Answer) (s : State) (h : s.ready) :
    serve c rule s = .next ((s.taken c).serveTaken c rule) := by
  simp [serve, State.live, h.1, State.begin_ready s c h]

/-- A command that the mode serves, of a permitted length, is answered by its rule (R174). -/
theorem State.serveTaken_served (s : State) (c : Instr) (rule : State → Answer) (hm : servedIn s.sup.mode c = true)
    (hl : lengthOk c = true) :
    s.serveTaken c rule =
      match rule s with
      | (some (status, fields), t) => t.answer c status fields
      | (none, t) => t := by
  unfold State.serveTaken State.answer
  simp only [hm, hl, Bool.not_true, Bool.false_eq_true, if_false]
  all_goals (split <;> simp_all)

/-- The same on a ready part. -/
theorem serve_served (c : Instr) (rule : State → Answer) (s : State) (h : s.ready)
    (hm : servedIn s.sup.mode c = true) (hl : lengthOk c = true) :
    serve c rule s = .next
      (match rule (s.taken c) with
      | (some (status, fields), t) => t.answer c status fields
      | (none, t) => t) := by
  rw [serve_ready c rule s h, State.serveTaken_served _ _ _ (by simpa using hm) hl]

end Sys2Proof.Machine
end

