-- ==== Sys2Proof/Laws/Pass.lean ====
section
/-! SUPPORT. Transitions and firing passes read neither the link nor the cue lines: they commute with replacing them, and so
with taking a command and with an accepted edge (R134, log 13). -/

namespace Sys2Proof.Machine

/-- Replace the Order Link and the Cue Monitor. -/
abbrev State.withLinkCues (s : State) (l : Link) (q : CueMonitor) : State := (s.withLink l).withCues q

theorem State.post_withLinkCues (s : State) (l : Link) (q : CueMonitor) (k : NoticeKind) (u : Subject) (v : NoticeValue) :
    (s.withLinkCues l q).post k u v = (s.post k u v).withLinkCues l q := by
  by_cases h : 7 ≤ s.settings.current.levels[k.code - 1]?.getD 7
  · simp [State.post, h]
  · simp [State.post, h, State.withNotices, State.withLink, State.withCues]

theorem State.placeMark_withLinkCues (s : State) (l : Link) (q : CueMonitor) (i : Nat) :
    (s.withLinkCues l q).placeMark i = (s.placeMark i).withLinkCues l q := by
  simp only [State.placeMark, show (s.withLinkCues l q).event? i = s.event? i from rfl]; (repeat' split) <;> first | rfl | contradiction

theorem State.requestJob_withLinkCues (s : State) (l : Link) (q : CueMonitor) (k : JobKind) (p : BitVec 48) :
    (s.withLinkCues l q).requestJob k p = (s.requestJob k p).withLinkCues l q := by
  by_cases h : p = 0#48
  · simp [State.requestJob, h]
  · simp [State.requestJob, h, State.withWalker, State.withLink, State.withCues]

theorem State.requestJobs_withLinkCues (s : State) (l : Link) (q : CueMonitor) (v p e : BitVec 48) :
    (s.withLinkCues l q).requestJobs v p e = (s.requestJobs v p e).withLinkCues l q := by
  have key (u : State) (a b c : JobKind) (x y z : BitVec 48) :
      (((u.withLinkCues l q).requestJob a x).requestJob b y).requestJob c z =
        (((u.requestJob a x).requestJob b y).requestJob c z).withLinkCues l q := by
    simp only [State.requestJob_withLinkCues]
  unfold State.requestJobs
  by_cases hc : v ≠ 0 ∧ p ≠ 0
  · by_cases hb : Config.voidBeforePurge s.choices = true
    · have hb' : Config.voidBeforePurge (s.withLinkCues l q).choices = true := hb
      simp only [if_pos hc, if_pos hb, if_pos hb']
      exact key { s with choices := s.choices + 1 } _ _ _ _ _ _
    · have hb' : ¬Config.voidBeforePurge (s.withLinkCues l q).choices = true := hb
      simp only [if_pos hc, if_neg hb, if_neg hb']
      exact key { s with choices := s.choices + 1 } _ _ _ _ _ _
  · simp only [if_neg hc]
    exact key s _ _ _ _ _ _

theorem State.reportEvent_withLinkCues (s : State) (l : Link) (q : CueMonitor) (i : Nat) :
    (s.withLinkCues l q).reportEvent i = (s.reportEvent i).withLinkCues l q := by
  unfold State.reportEvent
  dsimp only
  by_cases h : s.sup.mode = .configuring
  · rw [if_pos h, if_pos (show (s.withLinkCues l q).sup.mode = .configuring from h)]; rfl
  · rw [if_neg h, if_neg (show ¬(s.withLinkCues l q).sup.mode = .configuring from h)]
    rw [← State.requestJobs_withLinkCues]; rfl

theorem State.requestAnnouncement_withLinkCues (s : State) (l : Link) (q : CueMonitor) (i : Nat) :
    (s.withLinkCues l q).requestAnnouncement i = (s.requestAnnouncement i).withLinkCues l q := by
  unfold State.requestAnnouncement
  rw [show (s.withLinkCues l q).event? i = s.event? i from rfl,
    show (s.withLinkCues l q).arbiter = s.arbiter from rfl]
  by_cases h : ((s.event? i).isNone || s.arbiter.announcements.contains i || s.arbiter.retired.getLsbD i) = true
  · rw [if_pos h, if_pos h]
  · rw [if_neg h, if_neg h]; rfl

theorem State.transition_withLinkCues (s : State) (l : Link) (q : CueMonitor) (i : Nat) (e : EventEntry) (n : Option Nat) (c : Cause) :
    (s.withLinkCues l q).transition i e n c = (s.transition i e n c).withLinkCues l q := by
  have h : (s.withLinkCues l q).withEvents (s.events.set i (some e)) = (s.withEvents (s.events.set i (some e))).withLinkCues l q := rfl
  cases n <;>
    simp [State.transition, h, State.post_withLinkCues, State.placeMark_withLinkCues, State.reportEvent_withLinkCues,
      State.requestAnnouncement_withLinkCues]

theorem State.requestAction_withLinkCues (s : State) (l : Link) (q : CueMonitor) (i : Nat) (a : Action) (c : Cause) (sec ms : Nat) :
    (s.withLinkCues l q).requestAction i a c sec ms = (s.requestAction i a c sec ms).map fun t => t.withLinkCues l q := by
  unfold State.requestAction
  rw [show (s.withLinkCues l q).event? i = s.event? i from rfl]
  split
  · simp [State.transition_withLinkCues, Function.comp_def]
  · rfl

theorem State.fireFirst_withLinkCues (s : State) (l : Link) (q : CueMonitor) (now : Nat) :
    (s.withLinkCues l q).fireFirst now = (s.fireFirst now).map fun t => t.withLinkCues l q := by
  unfold State.fireFirst
  rw [show (s.withLinkCues l q).marks = s.marks from rfl]
  split
  · rfl
  next m rest _ =>
    split
    · have h : (s.withLinkCues l q).withMarks rest = (s.withMarks rest).withLinkCues l q := rfl
      simp only [h, State.requestAction_withLinkCues, Option.map_some]
      cases (s.withMarks rest).requestAction m.event m.kind.action .timer now 0 <;> rfl
    · rfl

theorem State.runPass_withLinkCues (n now : Nat) (s : State) (l : Link) (q : CueMonitor) :
    State.runPass n now (s.withLinkCues l q) = (State.runPass n now s).withLinkCues l q := by
  induction n generalizing s with
  | zero => rfl
  | succ n ih =>
    unfold State.runPass
    rw [State.fireFirst_withLinkCues]
    cases s.fireFirst now with
    | none => rfl
    | some t => exact ih t

/-- Completing a pass commutes with replacing the link and the cue lines. -/
theorem State.finishPass_withLinkCues (s : State) (l : Link) (q : CueMonitor) :
    (s.withLinkCues l q).finishPass = s.finishPass.withLinkCues l q := by
  have hd : (s.withLinkCues l q).due = s.due := rfl
  unfold State.finishPass
  rw [hd]
  cases h : s.due.inPass with
  | false => rfl
  | true =>
    cases hp : s.due.passes with
    | nil => rfl
    | cons now rest => simp only [if_true, State.firePass, State.runPass_withLinkCues]; rfl

/-- Completing a pass commutes with replacing the link. -/
theorem State.finishPass_withLink (s : State) (l : Link) : (s.withLink l).finishPass = s.finishPass.withLink l := by
  have h := s.finishPass_withLinkCues l s.cues
  rwa [show s.withLinkCues l s.cues = s.withLink l from rfl, show s.cues = s.finishPass.cues by simp] at h

/-- Completing a pass commutes with replacing the cue lines. -/
theorem State.finishPass_withCues (s : State) (q : CueMonitor) : (s.withCues q).finishPass = s.finishPass.withCues q := by
  have h := s.finishPass_withLinkCues s.link q
  rwa [show s.withLinkCues s.link q = s.withCues q from rfl, show s.link = s.finishPass.link by simp] at h

/-- With no pass in progress there is nothing to complete. -/
@[simp] theorem State.finishPass_idle (s : State) (h : s.due.inPass = false) : s.finishPass = s := by
  simp [State.finishPass, h]

/-- After a completed pass none is in progress. -/
@[simp] theorem State.finishPass_inPass (s : State) : s.finishPass.due.inPass = false := by
  unfold State.finishPass
  split
  · split <;> rfl
  · simp_all

/-- Completing a pass commutes with taking a command. -/
theorem State.finishPass_taken (s : State) (c : Instr) : (s.taken c).finishPass = s.finishPass.taken c := by
  obtain ⟨l, hl⟩ : ∃ l, ∀ t : State, t.link = s.link → t.taken c = t.withLink l := by
    refine ⟨(s.taken c).link, fun t ht => ?_⟩
    unfold State.taken State.takeFrame
    rw [ht]
    split
    · split <;> simp [State.withLink, ht]
    · simp [State.withLink, ht]
  rw [hl s rfl, hl s.finishPass (by simp), State.finishPass_withLink]

end Sys2Proof.Machine
end

