-- ==== Sys2Proof/Laws/PerInstr.lean ====
section
/-! SUPPORT. The family EncodedLength: the body that a well-formed command spells has the length that its header says. -/

namespace Sys2Proof.Laws.EncodedLength

open Sys2Proof.Machine

/-- The body of a well-formed command has the length of its header, KIND and TAG included (R171, R183). -/
def Statement (c : Instr) : Prop :=
  ∀ body, encodeFrame c = some body → c.wellFormed = true → body.length = (hdrOf c).len

/-- The length of a body, for every command at once. -/
theorem of_wellFormed (c : Instr) : Statement c := by
  intro body h hw
  unfold encodeFrame at h
  cases hf : linkFrame c with
  | none => simp [hf] at h
  | some x =>
    obtain ⟨kind, hdr, f⟩ := x
    simp only [Instr.wellFormed, hf, bodyLengthOk, Bool.and_eq_true, decide_eq_true_eq] at hw
    simp only [hf, Option.map_some, Option.some.injEq] at h
    simp only [← h, hdrOf, hf, Option.map_some, Option.getD_some, List.length_cons, List.length_take, List.length_append,
      List.length_replicate]
    omega

theorem set (h : Hdr) (id : BitVec 8) (value : BitVec 32) : Statement (.set h id value) := of_wellFormed _
theorem get (h : Hdr) (id : BitVec 8) : Statement (.get h id) := of_wellFormed _
theorem saveSettings (h : Hdr) : Statement (.saveSettings h) := of_wellFormed _
theorem saveSettingsWriteComplete : Statement .saveSettingsWriteComplete := of_wellFormed _
theorem clockSet (h : Hdr) (seconds : BitVec 32) (ms : BitVec 16) : Statement (.clockSet h seconds ms) := of_wellFormed _
theorem clockAdvance (h : Hdr) (n : BitVec 8) : Statement (.clockAdvance h n) := of_wellFormed _
theorem clockHold (h : Hdr) (n : BitVec 8) : Statement (.clockHold h n) := of_wellFormed _
theorem regionRuleSet (h : Hdr) (form idx : BitVec 8) (pattern mask : BitVec 24) (region : BitVec 8) : Statement (.regionRuleSet h form idx pattern mask region) := of_wellFormed _
theorem regionRuleClear (h : Hdr) (form idx : BitVec 8) : Statement (.regionRuleClear h form idx) := of_wellFormed _
theorem event (h : Hdr) (idx : BitVec 8) (so k e : BitVec 32) (late grace allow : BitVec 16) : Statement (.event h idx so k e late grace allow) := of_wellFormed _
theorem eventTimes (h : Hdr) (idx : BitVec 8) (so k e : BitVec 32) : Statement (.eventTimes h idx so k e) := of_wellFormed _
theorem blackout (h : Hdr) (idx : BitVec 8) (regions : BitVec 64) : Statement (.blackout h idx regions) := of_wellFormed _
theorem productDefine (h : Hdr) (form idx kind : BitVec 8) (events : List (BitVec 8)) : Statement (.productDefine h form idx kind events) := of_wellFormed _
theorem productDrop (h : Hdr) (form idx : BitVec 8) : Statement (.productDrop h form idx) := of_wellFormed _
theorem cueBind (h : Hdr) (line ev action level : BitVec 8) (debounce : BitVec 16) : Statement (.cueBind h line ev action level debounce) := of_wellFormed _
theorem cueClearUnbind (h : Hdr) (line form : BitVec 8) : Statement (.cueClearUnbind h line form) := of_wellFormed _
theorem cueClearRelease (h : Hdr) (line form : BitVec 8) : Statement (.cueClearRelease h line form) := of_wellFormed _
theorem keepalive (h : Hdr) (part value : BitVec 8) : Statement (.keepalive h part value) := of_wellFormed _
theorem maintenanceEnter (h : Hdr) (form : BitVec 8) : Statement (.maintenanceEnter h form) := of_wellFormed _
theorem maintenanceExit (h : Hdr) (form : BitVec 8) : Statement (.maintenanceExit h form) := of_wellFormed _
theorem eventActionOpenSale (h : Hdr) (idx action : BitVec 8) : Statement (.eventActionOpenSale h idx action) := of_wellFormed _
theorem eventActionKickoff (h : Hdr) (idx action : BitVec 8) : Statement (.eventActionKickoff h idx action) := of_wellFormed _
theorem eventActionOvertime (h : Hdr) (idx action : BitVec 8) : Statement (.eventActionOvertime h idx action) := of_wellFormed _
theorem eventActionSuspend (h : Hdr) (idx action : BitVec 8) : Statement (.eventActionSuspend h idx action) := of_wellFormed _
theorem eventActionResume (h : Hdr) (idx action : BitVec 8) : Statement (.eventActionResume h idx action) := of_wellFormed _
theorem eventActionFinish (h : Hdr) (idx action : BitVec 8) : Statement (.eventActionFinish h idx action) := of_wellFormed _
theorem eventActionVoid (h : Hdr) (idx action : BitVec 8) : Statement (.eventActionVoid h idx action) := of_wellFormed _
theorem purchase (h : Hdr) (addr : BitVec 32) (product : BitVec 8) : Statement (.purchase h addr product) := of_wellFormed _
theorem cancel (h : Hdr) (addr : BitVec 32) (product : BitVec 8) : Statement (.cancel h addr product) := of_wellFormed _
theorem batchOpen (h : Hdr) (op : BitVec 8) (count : BitVec 16) : Statement (.batchOpen h op count) := of_wellFormed _
theorem batchData (h : Hdr) (items : List BatchEntry) : Statement (.batchData h items) := of_wellFormed _
theorem batchItem : Statement .batchItem := of_wellFormed _
theorem batchEnd (h : Hdr) : Statement (.batchEnd h) := of_wellFormed _
theorem status (h : Hdr) : Statement (.status h) := of_wellFormed _
theorem showEvent (h : Hdr) (idx : BitVec 8) : Statement (.showEvent h idx) := of_wellFormed _
theorem showProduct (h : Hdr) (idx : BitVec 8) : Statement (.showProduct h idx) := of_wellFormed _
theorem showRecord (h : Hdr) (block : BitVec 32) (product : BitVec 8) : Statement (.showRecord h block product) := of_wellFormed _
theorem showDecoder (h : Hdr) (addr : BitVec 32) : Statement (.showDecoder h addr) := of_wellFormed _
theorem notices (h : Hdr) : Statement (.notices h) := of_wellFormed _
theorem resetTables (h : Hdr) (form : BitVec 8) : Statement (.resetTables h form) := of_wellFormed _
theorem resetFull (h : Hdr) (form : BitVec 8) : Statement (.resetFull h form) := of_wellFormed _
theorem unknownKind (h : Hdr) (kind : BitVec 8) : Statement (.unknownKind h kind) := of_wellFormed _
theorem resetTablesActs : Statement .resetTablesActs := of_wellFormed _
theorem resetFullActs : Statement .resetFullActs := of_wellFormed _
theorem powerOn (policy1 policy0 : Bool) : Statement (.powerOn policy1 policy0) := of_wellFormed _
theorem resetLineAsserted : Statement .resetLineAsserted := of_wellFormed _
theorem resetLine (policy1 policy0 : Bool) : Statement (.resetLine policy1 policy0) := of_wellFormed _
theorem configuringWindowExpiry : Statement .configuringWindowExpiry := of_wellFormed _
theorem frameCompletes (b : BitVec 8) : Statement (.frameCompletes b) := of_wellFormed _
theorem lenOutOfRange (b : BitVec 8) : Statement (.lenOutOfRange b) := of_wellFormed _
theorem byteGapExpiry : Statement .byteGapExpiry := of_wellFormed _
theorem huntArmed : Statement .huntArmed := of_wellFormed _
theorem replySent : Statement .replySent := of_wellFormed _
theorem batchIdleTimeout : Statement .batchIdleTimeout := of_wellFormed _
theorem msRollover : Statement .msRollover := of_wellFormed _
theorem markFiring : Statement .markFiring := of_wellFormed _
theorem windowStep : Statement .windowStep := of_wellFormed _
theorem announceIntervalCheck : Statement .announceIntervalCheck := of_wellFormed _
theorem rateInterval : Statement .rateInterval := of_wellFormed _
theorem pulse : Statement .pulse := of_wellFormed _
theorem lossTimerExpiry : Statement .lossTimerExpiry := of_wellFormed _
theorem holdExpires : Statement .holdExpires := of_wellFormed _
theorem sweepVisit : Statement .sweepVisit := of_wellFormed _
theorem slotGrant (us : Nat) : Statement (.slotGrant us) := of_wellFormed _
theorem starvationTimerExpiry : Statement .starvationTimerExpiry := of_wellFormed _
theorem cuePinChange (line : Nat) (level : Bool) : Statement (.cuePinChange line level) := of_wellFormed _
theorem debounceExpiry (line : Nat) (ms : Nat) : Statement (.debounceExpiry line ms) := of_wellFormed _
theorem coolingTimerExpiry (line : Nat) : Statement (.coolingTimerExpiry line) := of_wellFormed _
theorem settlingTimerExpiry : Statement .settlingTimerExpiry := of_wellFormed _
theorem periodTimerExpiry : Statement .periodTimerExpiry := of_wellFormed _
theorem quietTimerExpiry : Statement .quietTimerExpiry := of_wellFormed _
theorem byteReceived (b : BitVec 8) : Statement (.byteReceived b) := of_wellFormed _
theorem frameClock : Statement .frameClock := of_wellFormed _
theorem powerLoss : Statement .powerLoss := of_wellFormed _

end Sys2Proof.Laws.EncodedLength
end

