-- ==== Sys2Proof/Laws/Spec.lean ====
section
/-! SUPPORT. What the shared operations do, each said once: challenges, sets, marks, announcements, reports,
transitions, posting and the entry to HOLDOVER. -/

namespace Sys2Proof.Machine

/-! ### Challenges and sets -/

/-- A new challenge lies in 1..254 (R150). -/
theorem nextChallenge_range (old draw : Nat) : 1 ≤ nextChallenge old draw ∧ nextChallenge old draw ≤ 254 := by
  unfold nextChallenge; omega

/-- A new challenge differs from the one it replaces (R150). -/
theorem nextChallenge_ne (old draw : Nat) (_ : 1 ≤ old) (_ : old ≤ 254) : nextChallenge old draw ≠ old := by
  unfold nextChallenge; omega

/-- The members of a set of indexes. -/
theorem setOf_getLsbD (n : Nat) (f : Nat → Bool) (i : Nat) : (setOf n f).getLsbD i = (decide (i < n) && f i) := by
  have h : ∀ m ≤ n, ((List.range m).foldl (fun v j => if f j then v ||| BitVec.twoPow n j else v) (0 : BitVec n)).getLsbD i
      = (decide (i < m) && f i) := by
    intro m
    induction m with
    | zero => simp
    | succ m ih =>
      intro hm
      rw [List.range_succ, List.foldl_append, List.foldl_cons, List.foldl_nil]
      have ih := ih (by omega)
      have hf : ∀ b : Bool, ∀ v : BitVec n, (if b = true then v ||| BitVec.twoPow n m else v).getLsbD i =
          (v.getLsbD i || (b && decide (m = i))) := by
        intro b v
        cases b
        · simp
        · simp [BitVec.getLsbD_twoPow, show m < n by omega]
      rw [hf, ih]
      by_cases him : m = i
      · subst him; simp
      · have : decide (i < m + 1) = decide (i < m) := decide_eq_decide.mpr (by omega)
        rw [this]
        simp [him]
  exact h n (Nat.le_refl n)

/-! ### Marks (R5, R133) -/

theorem mem_insertMark (m x : Mark) (l : List Mark) : x ∈ insertMark m l ↔ x = m ∨ x ∈ l := by
  induction l with
  | nil => simp [insertMark]
  | cons y ys ih =>
    unfold insertMark
    split
    · simp
    · simp [ih, or_left_comm]

theorem filter_insertMark (m : Mark) (p : Mark → Bool) (l : List Mark) (h : p m = false) :
    (insertMark m l).filter p = l.filter p := by
  induction l with
  | nil => simp [insertMark, h]
  | cons y ys ih =>
    unfold insertMark
    split
    · simp [h]
    · simp [List.filter_cons, ih]

theorem find_insertMark (m : Mark) (p : Mark → Bool) (l : List Mark) (h : p m = true) (hl : ∀ x ∈ l, p x = false) :
    (insertMark m l).find? p = some m := by
  induction l with
  | nil => simp [insertMark, h]
  | cons y ys ih =>
    unfold insertMark
    split
    · simp [h]
    · simp only [List.mem_cons, forall_eq_or_imp] at hl
      simp [hl.1, ih hl.2]

/-- The event's mark after a replacement. -/
theorem find_replaceMark (l : List Mark) (i : Nat) (m : Option Mark) (h : ∀ x, m = some x → x.event = i) :
    (replaceMark l i m).find? (fun x => x.event == i) = m := by
  cases m with
  | none => simp [replaceMark, List.find?_eq_none]
  | some m =>
    refine find_insertMark m _ _ (by simp [h m rfl]) fun x hx => ?_
    simpa using (List.mem_filter.mp hx).2

/-- The marks of the other events after a replacement. -/
theorem filter_replaceMark (l : List Mark) (i : Nat) (m : Option Mark) (h : ∀ x, m = some x → x.event = i) :
    (replaceMark l i m).filter (fun x => x.event != i) = l.filter fun x => x.event != i := by
  cases m with
  | none => simp [replaceMark]
  | some m =>
    simp only [replaceMark]
    rw [filter_insertMark m _ _ (by simp [h m rfl])]
    simp

/-- The event's marks after a replacement. -/
theorem filter_replaceMark_self (l : List Mark) (i : Nat) (m : Option Mark) (h : ∀ x, m = some x → x.event = i) :
    (replaceMark l i m).filter (fun x => x.event == i) = m.toList := by
  cases m with
  | none => simp [replaceMark, List.filter_filter]
  | some m =>
    have key : ∀ l : List Mark, (∀ x ∈ l, x.event ≠ i) → (insertMark m l).filter (fun x => x.event == i) = [m] := by
      intro l
      induction l with
      | nil => intro _; simp [insertMark, h m rfl]
      | cons y ys ih =>
        intro hl
        have hys : ys.filter (fun x => x.event == i) = [] :=
          List.filter_eq_nil_iff.mpr fun x hx => by simpa using hl x (.tail _ hx)
        unfold insertMark
        split
        · simp [h m rfl, hl y (.head _), hys]
        · simp [hl y (.head _), ih fun x hx => hl x (.tail _ hx)]
    exact key _ fun x hx => by simpa using (List.mem_filter.mp hx).2

/-- The marks of one other event after a replacement. -/
theorem filter_replaceMark_other (l : List Mark) (i j : Nat) (hj : j ≠ i) (m : Option Mark)
    (h : ∀ x, m = some x → x.event = i) :
    (replaceMark l i m).filter (fun x => x.event == j) = l.filter fun x => x.event == j := by
  have key (q : List Mark) :
      q.filter (fun x => x.event == j) = (q.filter fun x => x.event != i).filter fun x => x.event == j := by
    rw [List.filter_filter]
    congr 1
    funext x
    by_cases hx : x.event = j <;> simp [hx, hj]
  rw [key, filter_replaceMark l i m h, ← key]

/-- The mark that an event's state needs is the event's. -/
theorem EventEntry.markFor_event (e : EventEntry) (i n : Nat) (m : Mark) (h : e.markFor i n = some m) : m.event = i := by
  unfold EventEntry.markFor at h
  split at h <;> simp at h <;> simp [← h]

/-- Placing the mark of an event that is not EMPTY. -/
theorem State.placeMark_marks (s : State) (i : Nat) (e : EventEntry) (h : s.event? i = some e) :
    (s.placeMark i).marks = replaceMark s.marks i (e.markFor i s.settings.current.kickoffTolerance) := by
  simp [State.placeMark, h]

/-- A mark of another event put into a list in order leaves it in order. -/
theorem pairwise_insertMark (m : Mark) (l : List Mark) (hl : l.Pairwise (fun a b => a.before b = true))
    (hm : ∀ x ∈ l, x.event ≠ m.event) : (insertMark m l).Pairwise (fun a b => a.before b = true) := by
  induction l with
  | nil => simp [insertMark]
  | cons y ys ih =>
    have hy := List.pairwise_cons.mp hl
    unfold insertMark
    split
    next hb =>
      refine List.pairwise_cons.mpr ⟨fun x hx => ?_, hl⟩
      rcases List.mem_cons.mp hx with rfl | hx
      · exact hb
      · have h2 := hy.1 x hx
        simp only [Mark.before, Bool.or_eq_true, Bool.and_eq_true, decide_eq_true_eq, beq_iff_eq] at hb h2 ⊢
        omega
    next hb =>
      refine List.pairwise_cons.mpr ⟨fun x hx => ?_, ih hy.2 fun x hx => hm x (.tail _ hx)⟩
      rcases (mem_insertMark m x ys).mp hx with rfl | hx
      · have := hm y (.head _)
        simp only [Mark.before, Bool.or_eq_true, Bool.and_eq_true, decide_eq_true_eq, beq_iff_eq] at hb ⊢
        omega
      · exact hy.1 x hx

theorem pairwise_replaceMark (l : List Mark) (i : Nat) (m : Option Mark) (h : ∀ x, m = some x → x.event = i)
    (hl : l.Pairwise (fun a b => a.before b = true)) :
    (replaceMark l i m).Pairwise (fun a b => a.before b = true) := by
  have hf := hl.filter (fun x => x.event != i)
  unfold replaceMark
  cases m with
  | none => exact hf
  | some m =>
    refine pairwise_insertMark m _ hf fun x hx => ?_
    rw [h m rfl]
    simpa using (List.mem_filter.mp hx).2

/-! ### Announcements (R106) -/

/-- What a request for an event that is not EMPTY does to the Emission Arbiter. -/
theorem State.requestAnnouncement_spec (s : State) (i : Nat) (h : (s.event? i).isSome = true) :
    (s.requestAnnouncement i).arbiter = s.arbiter.asked i := by
  have h : (s.event? i).isNone = false := by cases hx : s.event? i <;> simp [hx] at h ⊢
  unfold State.requestAnnouncement Arbiter.asked
  by_cases h1 : i ∈ s.arbiter.announcements <;> by_cases h2 : s.arbiter.retired.getLsbD i = true <;> simp [h, h1, h2]

/-! ### Reports (R22, R23, R113, R114) -/

/-- The requests of one report read the walker and the counter of choices, and change nothing else. -/
theorem State.requestJobs_congr (s t : State) (v p e : BitVec 48) (hw : s.walker = t.walker)
    (hc : s.choices = t.choices) :
    (s.requestJobs v p e).walker = (t.requestJobs v p e).walker ∧
    (s.requestJobs v p e).choices = (t.requestJobs v p e).choices := by
  simp only [State.requestJobs, State.requestJob, hc]
  repeat' split
  all_goals simp [hw, hc]

/-- A report reads the events, the products, the mode, the walker and the counter of choices. -/
theorem State.reportEvent_congr (s t : State) (i : Nat) (h1 : s.events = t.events) (h2 : s.products = t.products)
    (h3 : s.sup = t.sup) (h4 : s.walker = t.walker) (h5 : s.choices = t.choices) :
    (s.reportEvent i).products = (t.reportEvent i).products ∧ (s.reportEvent i).walker = (t.reportEvent i).walker ∧
    (s.reportEvent i).choices = (t.reportEvent i).choices := by
  have hev : s.event? = t.event? := by funext j; simp [State.event?, h1]
  have hpr : s.product? = t.product? := by funext j; simp [State.product?, h2]
  have hbd : productBound s = productBound t := by funext l; simp [productBound, State.eventBound, hev]
  have hov : s.isOver = t.isOver := by funext j; simp [State.isOver, hev]
  have hvo : s.isVoid = t.isVoid := by funext j; simp [State.isVoid, hev]
  have hdi : ProductDef.dies s = ProductDef.dies t := by funext d; simp [ProductDef.dies, hov]
  have hre : ProductDef.recompute s = ProductDef.recompute t := by funext d; simp [ProductDef.recompute, hbd, hdi]
  have hse : s.reportedSet i = t.reportedSet i := by funext f; simp [State.reportedSet, hpr]
  unfold State.reportEvent
  simp only [h2, h3, hre, hse, hdi, hvo, hbd]
  split
  · simp [h4, h5]
  · have := State.requestJobs_congr
      (s.withProducts (t.products.map fun x => match x.defn with
        | some d => if d.events.contains i then { x with defn := some (d.recompute t) } else x
        | none => x))
      (t.withProducts (t.products.map fun x => match x.defn with
        | some d => if d.events.contains i then { x with defn := some (d.recompute t) } else x
        | none => x))
      (t.reportedSet i fun d => d.dies t && d.events.all t.isVoid)
      (t.reportedSet i fun d => d.dies t && !d.events.all t.isVoid)
      (t.reportedSet i fun d => d.life == .alive && !d.dies t && d.bound.grows (productBound t d.events)) h4 h5
    exact ⟨by simp, this⟩

/-! ### Transitions (R4) -/

/-- An event that is not EMPTY has an index of the table. -/
theorem State.event?_lt (s : State) (i : Nat) (e : EventEntry) (h : s.event? i = some e) : i < s.events.length := by
  rcases Nat.lt_or_ge i s.events.length with hi | hi
  · exact hi
  · simp [State.event?, List.getD, List.getElem?_eq_none hi] at h

/-- The table of section 1.2 for a command, as the statements give it. -/
theorem EventEntry.act_command (x : EventEntry) (a : Action) (seconds ms : Nat) :
    x.act a .command seconds ms = entryAfter x a seconds ms := by
  unfold EventEntry.act entryAfter EventEntry.lengthen Suspension.length
  cases a <;> cases h : x.state <;> simp
  all_goals cases hs : x.suspension <;> simp

/-- The table of section 1.2 for a cue: as for a command, but a FINISH cue finds no entry in SUSPENDED (R3, R11). -/
theorem EventEntry.act_cue (x : EventEntry) (a : Action) (seconds ms : Nat) :
    x.act a .cue seconds ms = if a = .finish ∧ x.state = .suspended then none else entryAfter x a seconds ms := by
  unfold EventEntry.act entryAfter EventEntry.lengthen Suspension.length
  cases a <;> cases h : x.state <;> simp
  all_goals cases hs : x.suspension <;> simp

/-- The entry of an event after it is set. -/
theorem event?_set (s : State) (i : Nat) (e : EventEntry) (h : i < s.events.length) (j : Nat) :
    (s.withEvents (s.events.set i (some e))).event? j = if j = i then some e else s.event? j := by
  simp only [State.event?, State.withEvents_events, List.getD_eq_getElem?_getD, List.getElem?_set]
  by_cases hj : j = i
  · subst hj; simp [h]
  · simp [hj, Ne.symm hj]

/-- Posting a notice reads the current settings, the clock and the queue, and nothing else. -/
theorem State.post_notices_congr (s t : State) (k : NoticeKind) (u : Subject) (v : NoticeValue)
    (h1 : s.settings.current = t.settings.current) (h2 : s.clock = t.clock) (h3 : s.notices = t.notices) :
    (s.post k u v).notices = (t.post k u v).notices := by
  simp only [State.post, h1, h2, h3]
  split <;> simp [h3]

/-- All that a transition does (R4). -/
theorem State.transition_spec (s : State) (i : Nat) (e : EventEntry) (cut : Option Nat) (cause : Cause)
    (h : i < s.events.length) : TransitionTo s (s.transition i e cut cause) i e cause cut := by
  have he : ∀ t : State, t.events = s.events.set i (some e) → ∀ j, t.event? j = if j = i then some e else s.event? j := by
    intro t ht j
    rw [← event?_set s i e h j]
    simp [State.event?, ht]
  let a := s.withEvents (s.events.set i (some e))
  let b := match cut with
    | some n => a.post .extensionCapped (.event i) (.quantity n)
    | none => a
  have hb : b.events = s.events.set i (some e) ∧ b.marks = s.marks ∧ b.arbiter = s.arbiter ∧ b.settings = s.settings ∧
      b.clock = s.clock ∧ b.notices = (match cut with
        | some n => s.post .extensionCapped (.event i) (.quantity n)
        | none => s).notices := by
    cases cut with
    | none => simp [b, a]
    | some n =>
      refine ⟨by simp [b, a], by simp [b, a], by simp [b, a], by simp [b, a], by simp [b, a], ?_⟩
      exact State.post_notices_congr _ _ _ _ _ rfl rfl rfl
  obtain ⟨hb1, hb2, hb3, hb4, hb5, hb6⟩ := hb
  let c := (b.placeMark i).reportEvent i
  have hc : c.events = b.events ∧ c.marks = (b.placeMark i).marks ∧ c.arbiter = b.arbiter := by simp [c]
  have ht : s.transition i e cut cause = (c.requestAnnouncement i).post .eventState (.event i) (.eventState e.state cause) := rfl
  have hann := State.requestAnnouncement_spec c i (by rw [he c (hc.1.trans hb1)]; simp)
  have hmark : c.marks = replaceMark s.marks i (e.markFor i s.settings.current.kickoffTolerance) := by
    rw [hc.2.1, State.placeMark_marks b i e (by rw [he b hb1]; simp), hb2, hb4]
  rw [hc.2.2, hb3] at hann
  have hev : (s.transition i e cut cause).events = s.events.set i (some e) := by rw [ht]; simp [hc.1, hb1]
  have hmk : (s.transition i e cut cause).marks = c.marks := by rw [ht]; simp
  have hrep := State.reportEvent_congr (b.placeMark i) a i (by simp [hb1, a]) (by cases cut <;> simp [b, a])
    (by cases cut <;> simp [b, a]) (by cases cut <;> simp [b, a]) (by cases cut <;> simp [b, a])
  refine ⟨?_, hev, ?_, ?_, ?_, ?_, ?_, ?_, ?_⟩
  · rw [he _ hev]; simp
  · rw [hmk, hmark]; exact find_replaceMark _ _ _ (EventEntry.markFor_event e i _)
  · rw [hmk, hmark]; exact filter_replaceMark _ _ _ (EventEntry.markFor_event e i _)
  · intro hs; rw [hmk, hmark]; exact pairwise_replaceMark _ _ _ (EventEntry.markFor_event e i _) hs
  · rw [hev]; simpa [ht] using hrep
  · rw [ht]; simpa using hann
  · rw [ht]
    refine State.post_notices_congr _ _ _ _ _ ?_ ?_ ?_
    · cases cut <;> simp [c, b, a]
    · cases cut <;> simp [c, b, a]
    · simp only [c, State.reportEvent_frame, State.placeMark_frame, State.requestAnnouncement_frame, hb6]
      all_goals (cases cut <;> rfl)
  · have f := State.transition_frame s i e cut cause
    generalize s.transition i e cut cause = t at f
    cases s; cases t; simp_all

/-- All that a cue's request does at the broadcast time, with no pass in progress (R3, R141). -/
theorem State.cueRequest_spec (s : State) (line : Nat) (a : Action) (i : Nat) (hm : s.sup.mode ≠ .configuring)
    (hp : s.due.inPass = false) : CueActs s (s.cueRequest line a i s.clock.seconds s.clock.ms) line a i := by
  unfold CueActs State.cueRequest State.requestAction
  simp only [if_neg hm, State.finishPass_idle s hp, EventEntry.act_cue]
  cases he : s.event? i with
  | none => simp
  | some x =>
    simp only [Option.bind_some]
    generalize (if a = .finish ∧ x.state = .suspended then none else entryAfter x a s.clock.seconds s.clock.ms) = r
    cases r with
    | none => rfl
    | some y => exact s.transition_spec i _ _ _ (s.event?_lt i x he)

/-! ### Posting and HOLDOVER (R157, R178) -/

/-- Posting a notice changes the queue and nothing else. -/
theorem State.post_eq (s : State) (k : NoticeKind) (u : Subject) (v : NoticeValue) :
    s.post k u v = s.withNotices (s.post k u v).notices := by
  simp only [State.post]
  split <;> rfl

/-- Closing a batch with an unsolicited summary, where there is one to close (R68, R175). -/
theorem Link.closeUnsolicited_eq (l : Link) (flag : SummaryFlag) :
    l.closeUnsolicited flag =
      match l.batch with
      | none => l
      | some b =>
        let summary : Reply := ⟨0x95, b.tag, .done, .summary flag b⟩
        let service := l.service.filter fun v => !v.hasItems
        if service = none ∧ l.tx = [] then
          { l with batch := none, service := none, tx := [⟨summary, false⟩], unsolicited := none }
        else { l with batch := none, service := service, unsolicited := some summary } := by
  unfold Link.closeUnsolicited Link.pump summaryReply
  cases l.batch with
  | none => rfl
  | some b =>
    by_cases h : Option.filter (fun v => !v.hasItems) l.service = none
    · by_cases ht : l.tx = [] <;> simp [h, ht]
    · have hn : (Option.filter (fun v => !v.hasItems) l.service).isNone = false :=
        Bool.eq_false_iff.mpr fun hc => h (Option.isNone_iff_eq_none.mp hc)
      simp only [hn, h, Bool.false_and, Bool.false_eq_true, if_false, false_and]

/-- All that an entry to HOLDOVER does (R157). -/
theorem State.enterHoldover_spec (s : State) (byLink : Bool) : HoldoverEntered s (s.enterHoldover byLink) byLink := by
  have hl := s.link.closeUnsolicited_eq .cut
  let x := { s.sup with mode := Mode.holdover, period := none, windowOn := false, collection := 0, faults := 0 }
  let n := (s.post .holdoverEntered .none (.holdover byLink)).notices
  have he : s.enterHoldover byLink =
      (((s.withNotices n).withSup x).withLink (s.link.closeUnsolicited .cut)).policyEntry := by
    let u := (s.withSup x).withLink (s.link.closeUnsolicited .cut)
    have hn : (u.post .holdoverEntered .none (.holdover byLink)).notices = n :=
      State.post_notices_congr u s _ _ _ rfl rfl rfl
    show (u.post .holdoverEntered .none (.holdover byLink)).policyEntry = _
    rw [State.post_eq, hn]
    rfl
  rw [he]
  unfold HoldoverEntered State.policyEntry
  simp only [State.withSup_sup, State.withLink_sup, x]
  cases hp : s.sup.policy with
  | carry => refine ⟨?_, hl, ?_, ?_, ?_, ?_⟩ <;> simp [n, State.withSup, State.withLink, State.withNotices]
  | stretch =>
    have hj (u : State) :
        u.requestJob .extend allProducts = u.withWalker (u.walker.request .extend (BitVec.allOnes 48)) := by
      simp [State.requestJob, allProducts]
    simp only [hj]
    refine ⟨?_, hl, ?_, ?_, ?_, ?_⟩ <;>
      simp [n, State.withSup, State.withLink, State.withNotices, State.withWalker]
  | quietStanddown =>
    refine ⟨?_, hl, ?_, ?_, ?_, ?_⟩ <;> simp [n, State.withSup, State.withLink, State.withNotices]
  | cueStanddown =>
    cases ha : s.cues.asserted with
    | false =>
      simp only [State.withLink_cues, State.withSup_cues, State.withNotices_cues, ha, Bool.false_eq_true, if_false]
      refine ⟨?_, hl, ?_, ?_, ?_, ?_⟩ <;> simp [n, State.withSup, State.withLink, State.withNotices]
    | true =>
      simp only [State.withLink_cues, State.withSup_cues, State.withNotices_cues, ha, if_true, State.enterStanddown]
      rw [State.post_eq]
      refine ⟨?_, hl, ?_, ?_, ?_, ?_⟩
      · simp
      · simp
      · simp
      · simp only [and_self, if_true]
        refine State.post_notices_congr _ _ _ _ _ ?_ ?_ ?_ <;> simp [n]
      · simp [State.withSup, State.withLink, State.withNotices, State.withPort]

/-- An entry to HOLDOVER does not read what it overwrites in the supervision. -/
theorem State.enterHoldover_withSup (s : State) (x : Supervision) (byLink : Bool)
    (h : { x with mode := .holdover, period := none, windowOn := false, collection := 0, faults := 0 } =
      { s.sup with mode := Mode.holdover, period := none, windowOn := false, collection := 0, faults := 0 }) :
    (s.withSup x).enterHoldover byLink = s.enterHoldover byLink := by
  unfold State.enterHoldover
  simp only [State.withSup_sup]
  rw [h]
  rfl

/-- All that a counted fault does (R153, R154). -/
theorem State.countFault_spec (s : State) (cause : FaultCause) : FaultCounted s (s.countFault cause) cause := by
  let count := s.sup.faults + 1
  let u := (s.post .supervisionFault .none (.fault cause count)).withSettings (periodSettings s.settings)
  let x := { s.sup with
    collection := 0, faults := count, period := some (periodOf s.settings.current s.sup.mode),
    windowOn := windowOf s.settings.current s.sup.mode }
  have hf : s.countFault cause =
      if s.settings.current.faultLimit ≤ count then (u.withSup x).enterHoldover false else u.withSup x := by
    let v := (s.withSup { s.sup with collection := 0, faults := count }).startPeriod
    have hn : (v.post .supervisionFault .none (.fault cause count)).notices =
        (s.post .supervisionFault .none (.fault cause count)).notices := State.post_notices_congr v s _ _ _ rfl rfl rfl
    have hu : u = (s.withNotices (s.post .supervisionFault .none (.fault cause count)).notices).withSettings
        (periodSettings s.settings) := congrArg (State.withSettings · (periodSettings s.settings)) (s.post_eq _ _ _)
    have hv : v.post .supervisionFault .none (.fault cause count) = u.withSup x := by
      rw [State.post_eq v, hn, hu]
      rfl
    have h : s.countFault cause =
        if (u.withSup x).settings.current.faultLimit ≤ (u.withSup x).sup.faults then (u.withSup x).enterHoldover false
        else u.withSup x := by
      rw [← hv]; rfl
    rw [h, hu]; rfl
  rw [hf]
  refine ⟨fun h => by rw [if_neg (Nat.not_le.mpr h)], fun h => ?_⟩
  rw [if_pos h, State.enterHoldover_withSup u x false (by simp [x, u])]
  exact u.enterHoldover_spec false

end Sys2Proof.Machine
end

