-- ==== Sys2Proof/Laws/Records.lean ====
section
/-! SUPPORT. The records of the Grant Store under its operations, and the notice queue under a posting. -/

namespace Sys2Proof.Machine

/-! ### Finding a record (R31) -/

/-- A found record has the key that was asked for and is in the store. -/
theorem GrantStore.find_some (g : GrantStore) (k : Key) (r : GrantRecord) (h : g.find k = some r) :
    r.key = k ∧ r ∈ g.records := by
  unfold GrantStore.find at h
  exact ⟨by simpa using List.find?_some h, List.mem_of_find?_eq_some h⟩

/-- Finding after a record with a key that is there was replaced. -/
theorem GrantStore.find_update (g : GrantStore) (r old : GrantRecord) (h : g.find r.key = some old) (k : Key) :
    (g.update r).find k = if k = r.key then some r else g.find k := by
  unfold GrantStore.find GrantStore.update at *
  dsimp only at *
  generalize g.records = l at *
  induction l with
  | nil => simp at h
  | cons x xs ih =>
    simp only [List.map_cons, List.find?_cons] at h ⊢
    by_cases hx : x.key = r.key
    · by_cases hk : k = r.key
      · simp [hx, hk]
      · have h1 : (r.key == k) = false := by simpa using Ne.symm hk
        simp only [hx, if_true, h1, hk, if_false]
        clear ih h
        induction xs with
        | nil => simp
        | cons y ys ih =>
          simp only [List.map_cons, List.find?_cons]
          by_cases hy : y.key = r.key
          · simpa [hy, h1] using ih
          · by_cases hyk : y.key = k <;> simp_all
    · simp only [hx, if_false]
      have hx' : (x.key == r.key) = false := by simpa using hx
      rw [hx'] at h
      have ih := ih h
      by_cases hxk : x.key = k
      · simp [hxk, show ¬k = r.key from hxk ▸ hx]
      · simpa [show (x.key == k) = false by simpa using hxk] using ih

/-- Moving a record changes the lists, and the records as a replacement does. -/
theorem GrantStore.find_move (g : GrantStore) (p : Place) (r old : GrantRecord) (h : g.find r.key = some old) (k : Key) :
    (g.move p r).find k = if k = r.key then some r else g.find k := by
  rw [← GrantStore.find_update g r old h k]
  unfold GrantStore.move GrantStore.enlist GrantStore.unlist
  cases p <;> cases r.place <;> rfl

theorem find_insertRecord (r : GrantRecord) (l : List GrantRecord) (h : ∀ x ∈ l, x.key ≠ r.key) (k : Key) :
    (insertRecord r l).find? (fun x => x.key == k) =
      if k = r.key then some r else l.find? fun x => x.key == k := by
  induction l with
  | nil =>
    by_cases hk : k = r.key
    · simp [insertRecord, hk]
    · simp [insertRecord, hk, Ne.symm hk]
  | cons y ys ih =>
    simp only [List.mem_cons, forall_eq_or_imp] at h
    unfold insertRecord
    split
    · by_cases hk : k = r.key
      · simp [hk]
      · simp [hk, show (r.key == k) = false by simpa using Ne.symm hk, List.find?_cons]
    · have ih := ih h.2
      by_cases hy : y.key = k
      · have : ¬k = r.key := fun e => h.1 (hy.trans e)
        simp [hy, this]
      · simpa [List.find?_cons, hy] using ih

/-- Finding after a record was created under a new key (R33). -/
theorem GrantStore.find_create (g : GrantStore) (r : GrantRecord) (h : g.find r.key = none) (k : Key) :
    (g.create r).find k = if k = r.key then some r else g.find k := by
  refine find_insertRecord r g.records (fun x hx => ?_) k
  simpa using List.find?_eq_none.mp h x hx

theorem length_insertRecord (r : GrantRecord) (l : List GrantRecord) : (insertRecord r l).length = l.length + 1 := by
  induction l with
  | nil => rfl
  | cons y ys ih => unfold insertRecord; split <;> simp [ih]

/-- Finding after a record was freed (R34). -/
theorem GrantStore.find_free (g : GrantStore) (r : GrantRecord) (k : Key) :
    (g.free r).find k = if k = r.key then none else g.find k := by
  have hu : (g.unlist r.key r.place).records = g.records := by unfold GrantStore.unlist; cases r.place <;> rfl
  simp only [GrantStore.free, GrantStore.find, hu, List.find?_filter]
  by_cases hk : k = r.key
  · subst hk; simp [List.find?_eq_none]
  · simp only [hk, if_false]
    congr 1
    funext x
    by_cases hx : x.key = k <;> simp [hx, hk]

/-! ### The notice queue (R179, R181) -/

/-- The least urgent level held is the level of a queued notice, unless it is 0. -/
theorem NoticeQueue.worst_mem (q : NoticeQueue) (h : 0 < q.worst) : ∃ m ∈ q.queue, m.level = q.worst := by
  have key : ∀ (l : List Notice) (a : Nat), l.foldl (fun m n => max m n.level) a = a ∨
      ∃ m ∈ l, m.level = l.foldl (fun m n => max m n.level) a := by
    intro l
    induction l with
    | nil => simp
    | cons x xs ih =>
      intro a
      rcases ih (max a x.level) with h | ⟨m, hm, hl⟩
      · by_cases hx : x.level ≤ a
        · left; rw [List.foldl_cons, h]; omega
        · right; exact ⟨x, by simp, by rw [List.foldl_cons, h]; omega⟩
      · right; exact ⟨m, by simp [hm], by rw [List.foldl_cons, hl]⟩
  rcases key q.queue 0 with h0 | h0
  · unfold NoticeQueue.worst at h; omega
  · exact h0

/-- The queue never holds more than 64 notices. -/
theorem NoticeQueue.take_length (q : NoticeQueue) (threshold : Nat) (n : Notice) (h : q.queue.length ≤ 64) :
    (q.take threshold n).queue.length ≤ 64 := by
  unfold NoticeQueue.take
  split
  · simp; omega
  next h1 =>
    split
    next h2 =>
      obtain ⟨m, hm, hl⟩ := q.worst_mem (by omega)
      have : (dropNewest q.worst q.queue).length = q.queue.length - 1 := by
        simp only [dropNewest, List.length_reverse]
        rw [List.length_eraseP_of_mem (a := m) (by simpa using hm) (by simpa using hl)]
        simp
      simp [this]; omega
    · simpa using h

/-- ATTN stays asserted when a notice is posted, and is asserted by one that is urgent (R181). -/
theorem NoticeQueue.take_attn (q : NoticeQueue) (threshold : Nat) (n : Notice)
    (h : q.attn = true) : (q.take threshold n).attn = true := by
  unfold NoticeQueue.take; (repeat' split) <;> simp [h]

/-- Every notice of the queue after a posting was there before or is the one posted. -/
theorem NoticeQueue.mem_take (q : NoticeQueue) (threshold : Nat) (n m : Notice) (h : m ∈ (q.take threshold n).queue) :
    m ∈ q.queue ∨ (m = n ∧ (n.level ≤ threshold → (q.take threshold n).attn = true)) := by
  unfold NoticeQueue.take at *
  split at h
  · simp only [List.mem_append, List.mem_singleton] at h
    rcases h with h | h
    · exact .inl h
    · refine .inr ⟨h, fun hl => ?_⟩; split <;> simp_all
  · split at h
    · simp only [List.mem_append, List.mem_singleton, dropNewest, List.mem_reverse] at h
      rcases h with h | h
      · exact .inl (by simpa using List.mem_of_mem_eraseP h)
      · refine .inr ⟨h, fun hl => ?_⟩; (repeat' split) <;> simp_all
    · exact .inl h

end Sys2Proof.Machine
end

