-- ==== Sys2Proof/Laws/Rules.lean ====
section
/-! SUPPORT. What the rule of each command of the Order Link leaves unchanged of the state that has taken it. -/

namespace Sys2Proof.Machine

@[simp] theorem setRule_frame (id : BitVec 8) (v : BitVec 32) (s : State) :
    (setRule id v s).2.run = s.run ∧ (setRule id v s).2.osc = s.osc ∧ (setRule id v s).2.draws = s.draws ∧
    (setRule id v s).2.choices = s.choices ∧ (setRule id v s).2.clock = s.clock ∧
    (setRule id v s).2.marks = s.marks ∧ (setRule id v s).2.due = s.due ∧ (setRule id v s).2.events = s.events ∧
    (setRule id v s).2.products = s.products ∧ (setRule id v s).2.regions = s.regions ∧
    (setRule id v s).2.store = s.store ∧ (setRule id v s).2.arbiter = s.arbiter ∧ (setRule id v s).2.port = s.port ∧
    (setRule id v s).2.walker = s.walker ∧ (setRule id v s).2.cues = s.cues ∧ (setRule id v s).2.pending = s.pending := by
  unfold setRule; (try dsimp only); (repeat' split) <;> simp [plainReply]

@[simp] theorem getRule_frame (id : BitVec 8) (s : State) :
    (getRule id s).2.run = s.run ∧ (getRule id s).2.osc = s.osc ∧ (getRule id s).2.draws = s.draws ∧
    (getRule id s).2.choices = s.choices ∧ (getRule id s).2.sup = s.sup ∧ (getRule id s).2.settings = s.settings ∧
    (getRule id s).2.clock = s.clock ∧ (getRule id s).2.marks = s.marks ∧ (getRule id s).2.due = s.due ∧
    (getRule id s).2.events = s.events ∧ (getRule id s).2.products = s.products ∧
    (getRule id s).2.regions = s.regions ∧ (getRule id s).2.store = s.store ∧ (getRule id s).2.pacing = s.pacing ∧
    (getRule id s).2.arbiter = s.arbiter ∧ (getRule id s).2.port = s.port ∧ (getRule id s).2.walker = s.walker ∧
    (getRule id s).2.cues = s.cues ∧ (getRule id s).2.link = s.link ∧ (getRule id s).2.notices = s.notices ∧
    (getRule id s).2.pending = s.pending := by
  unfold getRule; (try dsimp only); (repeat' split) <;> simp [plainReply]

@[simp] theorem saveRule_frame (s : State) :
    (saveRule s).2.run = s.run ∧ (saveRule s).2.osc = s.osc ∧ (saveRule s).2.draws = s.draws ∧
    (saveRule s).2.choices = s.choices ∧ (saveRule s).2.sup = s.sup ∧ (saveRule s).2.clock = s.clock ∧
    (saveRule s).2.marks = s.marks ∧ (saveRule s).2.due = s.due ∧ (saveRule s).2.events = s.events ∧
    (saveRule s).2.products = s.products ∧ (saveRule s).2.regions = s.regions ∧ (saveRule s).2.store = s.store ∧
    (saveRule s).2.pacing = s.pacing ∧ (saveRule s).2.arbiter = s.arbiter ∧ (saveRule s).2.port = s.port ∧
    (saveRule s).2.walker = s.walker ∧ (saveRule s).2.cues = s.cues ∧ (saveRule s).2.notices = s.notices ∧
    (saveRule s).2.pending = s.pending := by
  unfold saveRule; (try dsimp only); (repeat' split) <;> simp

@[simp] theorem clockSetRule_frame (x : BitVec 32) (m : BitVec 16) (s : State) :
    (clockSetRule x m s).2.run = s.run ∧ (clockSetRule x m s).2.osc = s.osc ∧
    (clockSetRule x m s).2.draws = s.draws ∧ (clockSetRule x m s).2.choices = s.choices ∧
    (clockSetRule x m s).2.sup = s.sup ∧ (clockSetRule x m s).2.settings = s.settings ∧
    (clockSetRule x m s).2.marks = s.marks ∧ (clockSetRule x m s).2.due = s.due ∧
    (clockSetRule x m s).2.events = s.events ∧ (clockSetRule x m s).2.products = s.products ∧
    (clockSetRule x m s).2.regions = s.regions ∧ (clockSetRule x m s).2.store = s.store ∧
    (clockSetRule x m s).2.pacing = s.pacing ∧ (clockSetRule x m s).2.arbiter = s.arbiter ∧
    (clockSetRule x m s).2.port = s.port ∧ (clockSetRule x m s).2.walker = s.walker ∧
    (clockSetRule x m s).2.cues = s.cues ∧ (clockSetRule x m s).2.link = s.link ∧
    (clockSetRule x m s).2.notices = s.notices ∧ (clockSetRule x m s).2.pending = s.pending := by
  unfold clockSetRule; (try dsimp only); (repeat' split) <;> simp [plainReply]

@[simp] theorem clockAdvanceRule_frame (n : BitVec 8) (s : State) :
    (clockAdvanceRule n s).2.run = s.run ∧ (clockAdvanceRule n s).2.osc = s.osc ∧
    (clockAdvanceRule n s).2.draws = s.draws ∧ (clockAdvanceRule n s).2.choices = s.choices ∧
    (clockAdvanceRule n s).2.sup = s.sup ∧ (clockAdvanceRule n s).2.settings = s.settings ∧
    (clockAdvanceRule n s).2.marks = s.marks ∧ (clockAdvanceRule n s).2.events = s.events ∧
    (clockAdvanceRule n s).2.products = s.products ∧ (clockAdvanceRule n s).2.regions = s.regions ∧
    (clockAdvanceRule n s).2.store = s.store ∧ (clockAdvanceRule n s).2.pacing = s.pacing ∧
    (clockAdvanceRule n s).2.arbiter = s.arbiter ∧ (clockAdvanceRule n s).2.port = s.port ∧
    (clockAdvanceRule n s).2.walker = s.walker ∧ (clockAdvanceRule n s).2.cues = s.cues ∧
    (clockAdvanceRule n s).2.link = s.link ∧ (clockAdvanceRule n s).2.notices = s.notices ∧
    (clockAdvanceRule n s).2.pending = s.pending := by
  unfold clockAdvanceRule; (try dsimp only); (repeat' split) <;> simp [plainReply]

@[simp] theorem clockHoldRule_frame (n : BitVec 8) (s : State) :
    (clockHoldRule n s).2.run = s.run ∧ (clockHoldRule n s).2.osc = s.osc ∧ (clockHoldRule n s).2.draws = s.draws ∧
    (clockHoldRule n s).2.choices = s.choices ∧ (clockHoldRule n s).2.sup = s.sup ∧
    (clockHoldRule n s).2.settings = s.settings ∧ (clockHoldRule n s).2.marks = s.marks ∧
    (clockHoldRule n s).2.due = s.due ∧ (clockHoldRule n s).2.events = s.events ∧
    (clockHoldRule n s).2.products = s.products ∧ (clockHoldRule n s).2.regions = s.regions ∧
    (clockHoldRule n s).2.store = s.store ∧ (clockHoldRule n s).2.pacing = s.pacing ∧
    (clockHoldRule n s).2.arbiter = s.arbiter ∧ (clockHoldRule n s).2.port = s.port ∧
    (clockHoldRule n s).2.walker = s.walker ∧ (clockHoldRule n s).2.cues = s.cues ∧
    (clockHoldRule n s).2.link = s.link ∧ (clockHoldRule n s).2.notices = s.notices ∧
    (clockHoldRule n s).2.pending = s.pending := by
  unfold clockHoldRule; (try dsimp only); (repeat' split) <;> simp [plainReply]

@[simp] theorem regionSetRule_frame (f i : BitVec 8) (p m : BitVec 24) (r : BitVec 8) (s : State) :
    (regionSetRule f i p m r s).2.run = s.run ∧ (regionSetRule f i p m r s).2.osc = s.osc ∧
    (regionSetRule f i p m r s).2.draws = s.draws ∧ (regionSetRule f i p m r s).2.choices = s.choices ∧
    (regionSetRule f i p m r s).2.sup = s.sup ∧ (regionSetRule f i p m r s).2.settings = s.settings ∧
    (regionSetRule f i p m r s).2.clock = s.clock ∧ (regionSetRule f i p m r s).2.marks = s.marks ∧
    (regionSetRule f i p m r s).2.due = s.due ∧ (regionSetRule f i p m r s).2.events = s.events ∧
    (regionSetRule f i p m r s).2.products = s.products ∧ (regionSetRule f i p m r s).2.store = s.store ∧
    (regionSetRule f i p m r s).2.pacing = s.pacing ∧ (regionSetRule f i p m r s).2.arbiter = s.arbiter ∧
    (regionSetRule f i p m r s).2.port = s.port ∧ (regionSetRule f i p m r s).2.walker = s.walker ∧
    (regionSetRule f i p m r s).2.cues = s.cues ∧ (regionSetRule f i p m r s).2.link = s.link ∧
    (regionSetRule f i p m r s).2.notices = s.notices ∧ (regionSetRule f i p m r s).2.pending = s.pending := by
  unfold regionSetRule; (try dsimp only); (repeat' split) <;> simp [plainReply]

@[simp] theorem regionClearRule_frame (i : BitVec 8) (s : State) :
    (regionClearRule i s).2.run = s.run ∧ (regionClearRule i s).2.osc = s.osc ∧
    (regionClearRule i s).2.draws = s.draws ∧ (regionClearRule i s).2.choices = s.choices ∧
    (regionClearRule i s).2.sup = s.sup ∧ (regionClearRule i s).2.settings = s.settings ∧
    (regionClearRule i s).2.clock = s.clock ∧ (regionClearRule i s).2.marks = s.marks ∧
    (regionClearRule i s).2.due = s.due ∧ (regionClearRule i s).2.events = s.events ∧
    (regionClearRule i s).2.products = s.products ∧ (regionClearRule i s).2.store = s.store ∧
    (regionClearRule i s).2.pacing = s.pacing ∧ (regionClearRule i s).2.arbiter = s.arbiter ∧
    (regionClearRule i s).2.port = s.port ∧ (regionClearRule i s).2.walker = s.walker ∧
    (regionClearRule i s).2.cues = s.cues ∧ (regionClearRule i s).2.link = s.link ∧
    (regionClearRule i s).2.notices = s.notices ∧ (regionClearRule i s).2.pending = s.pending := by
  unfold regionClearRule; (try dsimp only); (repeat' split) <;> simp [plainReply]

@[simp] theorem eventRule_frame (i : BitVec 8) (a b c : BitVec 32) (l g w : BitVec 16) (s : State) :
    (eventRule i a b c l g w s).2.run = s.run ∧ (eventRule i a b c l g w s).2.osc = s.osc ∧
    (eventRule i a b c l g w s).2.draws = s.draws ∧ (eventRule i a b c l g w s).2.sup = s.sup ∧
    (eventRule i a b c l g w s).2.settings = s.settings ∧ (eventRule i a b c l g w s).2.clock = s.clock ∧
    (eventRule i a b c l g w s).2.regions = s.regions ∧ (eventRule i a b c l g w s).2.store = s.store ∧
    (eventRule i a b c l g w s).2.pacing = s.pacing ∧ (eventRule i a b c l g w s).2.port = s.port ∧
    (eventRule i a b c l g w s).2.cues = s.cues ∧ (eventRule i a b c l g w s).2.link = s.link ∧
    (eventRule i a b c l g w s).2.pending = s.pending := by
  unfold eventRule; (try dsimp only); (repeat' split) <;> simp [plainReply]

@[simp] theorem eventTimesRule_frame (i : BitVec 8) (a b c : BitVec 32) (s : State) :
    (eventTimesRule i a b c s).2.run = s.run ∧ (eventTimesRule i a b c s).2.osc = s.osc ∧
    (eventTimesRule i a b c s).2.draws = s.draws ∧ (eventTimesRule i a b c s).2.sup = s.sup ∧
    (eventTimesRule i a b c s).2.settings = s.settings ∧ (eventTimesRule i a b c s).2.clock = s.clock ∧
    (eventTimesRule i a b c s).2.regions = s.regions ∧ (eventTimesRule i a b c s).2.store = s.store ∧
    (eventTimesRule i a b c s).2.pacing = s.pacing ∧ (eventTimesRule i a b c s).2.port = s.port ∧
    (eventTimesRule i a b c s).2.cues = s.cues ∧ (eventTimesRule i a b c s).2.link = s.link ∧
    (eventTimesRule i a b c s).2.pending = s.pending := by
  unfold eventTimesRule; (try dsimp only); (repeat' split) <;> simp [plainReply]

@[simp] theorem blackoutRule_frame (i : BitVec 8) (r : BitVec 64) (s : State) :
    (blackoutRule i r s).2.run = s.run ∧ (blackoutRule i r s).2.osc = s.osc ∧
    (blackoutRule i r s).2.draws = s.draws ∧ (blackoutRule i r s).2.sup = s.sup ∧
    (blackoutRule i r s).2.settings = s.settings ∧ (blackoutRule i r s).2.clock = s.clock ∧
    (blackoutRule i r s).2.regions = s.regions ∧ (blackoutRule i r s).2.store = s.store ∧
    (blackoutRule i r s).2.pacing = s.pacing ∧ (blackoutRule i r s).2.port = s.port ∧
    (blackoutRule i r s).2.cues = s.cues ∧ (blackoutRule i r s).2.link = s.link ∧
    (blackoutRule i r s).2.pending = s.pending := by
  unfold blackoutRule; (try dsimp only); (repeat' split) <;> simp [plainReply]

@[simp] theorem productDefineRule_frame (f i k : BitVec 8) (es : List (BitVec 8)) (s : State) :
    (productDefineRule f i k es s).2.run = s.run ∧ (productDefineRule f i k es s).2.osc = s.osc ∧
    (productDefineRule f i k es s).2.draws = s.draws ∧ (productDefineRule f i k es s).2.choices = s.choices ∧
    (productDefineRule f i k es s).2.sup = s.sup ∧ (productDefineRule f i k es s).2.settings = s.settings ∧
    (productDefineRule f i k es s).2.clock = s.clock ∧ (productDefineRule f i k es s).2.marks = s.marks ∧
    (productDefineRule f i k es s).2.due = s.due ∧ (productDefineRule f i k es s).2.events = s.events ∧
    (productDefineRule f i k es s).2.regions = s.regions ∧ (productDefineRule f i k es s).2.store = s.store ∧
    (productDefineRule f i k es s).2.pacing = s.pacing ∧ (productDefineRule f i k es s).2.port = s.port ∧
    (productDefineRule f i k es s).2.walker = s.walker ∧ (productDefineRule f i k es s).2.cues = s.cues ∧
    (productDefineRule f i k es s).2.link = s.link ∧ (productDefineRule f i k es s).2.notices = s.notices ∧
    (productDefineRule f i k es s).2.pending = s.pending := by
  unfold productDefineRule; (try dsimp only); (repeat' split) <;> simp [plainReply]

@[simp] theorem productDropRule_frame (i : BitVec 8) (s : State) :
    (productDropRule i s).2.run = s.run ∧ (productDropRule i s).2.osc = s.osc ∧
    (productDropRule i s).2.draws = s.draws ∧ (productDropRule i s).2.choices = s.choices ∧
    (productDropRule i s).2.sup = s.sup ∧ (productDropRule i s).2.settings = s.settings ∧
    (productDropRule i s).2.clock = s.clock ∧ (productDropRule i s).2.marks = s.marks ∧
    (productDropRule i s).2.due = s.due ∧ (productDropRule i s).2.events = s.events ∧
    (productDropRule i s).2.regions = s.regions ∧ (productDropRule i s).2.store = s.store ∧
    (productDropRule i s).2.pacing = s.pacing ∧ (productDropRule i s).2.port = s.port ∧
    (productDropRule i s).2.cues = s.cues ∧ (productDropRule i s).2.link = s.link ∧
    (productDropRule i s).2.notices = s.notices ∧ (productDropRule i s).2.pending = s.pending := by
  unfold productDropRule; (try dsimp only); (repeat' split) <;> simp [plainReply]

@[simp] theorem cueBindRule_frame (l e a v : BitVec 8) (d : BitVec 16) (s : State) :
    (cueBindRule l e a v d s).2.run = s.run ∧ (cueBindRule l e a v d s).2.osc = s.osc ∧
    (cueBindRule l e a v d s).2.draws = s.draws ∧ (cueBindRule l e a v d s).2.sup = s.sup ∧
    (cueBindRule l e a v d s).2.settings = s.settings ∧ (cueBindRule l e a v d s).2.clock = s.clock ∧
    (cueBindRule l e a v d s).2.regions = s.regions ∧ (cueBindRule l e a v d s).2.store = s.store ∧
    (cueBindRule l e a v d s).2.pacing = s.pacing ∧ (cueBindRule l e a v d s).2.port = s.port ∧
    (cueBindRule l e a v d s).2.link = s.link ∧ (cueBindRule l e a v d s).2.pending = s.pending := by
  unfold cueBindRule; (try dsimp only); (repeat' split) <;> simp [plainReply]

@[simp] theorem cueUnbindRule_frame (l f : BitVec 8) (s : State) :
    (cueUnbindRule l f s).2.run = s.run ∧ (cueUnbindRule l f s).2.osc = s.osc ∧
    (cueUnbindRule l f s).2.draws = s.draws ∧ (cueUnbindRule l f s).2.sup = s.sup ∧
    (cueUnbindRule l f s).2.settings = s.settings ∧ (cueUnbindRule l f s).2.clock = s.clock ∧
    (cueUnbindRule l f s).2.regions = s.regions ∧ (cueUnbindRule l f s).2.store = s.store ∧
    (cueUnbindRule l f s).2.pacing = s.pacing ∧ (cueUnbindRule l f s).2.port = s.port ∧
    (cueUnbindRule l f s).2.link = s.link ∧ (cueUnbindRule l f s).2.pending = s.pending := by
  unfold cueUnbindRule; (try dsimp only); (repeat' split) <;> simp [plainReply]

@[simp] theorem cueReleaseRule_frame (l f : BitVec 8) (s : State) :
    (cueReleaseRule l f s).2.run = s.run ∧ (cueReleaseRule l f s).2.osc = s.osc ∧
    (cueReleaseRule l f s).2.draws = s.draws ∧ (cueReleaseRule l f s).2.choices = s.choices ∧
    (cueReleaseRule l f s).2.sup = s.sup ∧ (cueReleaseRule l f s).2.settings = s.settings ∧
    (cueReleaseRule l f s).2.clock = s.clock ∧ (cueReleaseRule l f s).2.marks = s.marks ∧
    (cueReleaseRule l f s).2.due = s.due ∧ (cueReleaseRule l f s).2.events = s.events ∧
    (cueReleaseRule l f s).2.products = s.products ∧ (cueReleaseRule l f s).2.regions = s.regions ∧
    (cueReleaseRule l f s).2.store = s.store ∧ (cueReleaseRule l f s).2.pacing = s.pacing ∧
    (cueReleaseRule l f s).2.arbiter = s.arbiter ∧ (cueReleaseRule l f s).2.port = s.port ∧
    (cueReleaseRule l f s).2.walker = s.walker ∧ (cueReleaseRule l f s).2.link = s.link ∧
    (cueReleaseRule l f s).2.notices = s.notices ∧ (cueReleaseRule l f s).2.pending = s.pending := by
  unfold cueReleaseRule; (try dsimp only); (repeat' split) <;> simp [plainReply]

@[simp] theorem keepaliveRule_frame (p v : BitVec 8) (s : State) :
    (keepaliveRule p v s).2.run = s.run ∧ (keepaliveRule p v s).2.osc = s.osc ∧
    (keepaliveRule p v s).2.clock = s.clock ∧ (keepaliveRule p v s).2.due = s.due ∧
    (keepaliveRule p v s).2.regions = s.regions ∧ (keepaliveRule p v s).2.store = s.store ∧
    (keepaliveRule p v s).2.pacing = s.pacing ∧ (keepaliveRule p v s).2.cues = s.cues ∧
    (keepaliveRule p v s).2.pending = s.pending := by
  unfold keepaliveRule; (try dsimp only); (repeat' split) <;> simp

@[simp] theorem maintenanceEnterRule_frame (f : BitVec 8) (s : State) :
    (maintenanceEnterRule f s).2.run = s.run ∧ (maintenanceEnterRule f s).2.osc = s.osc ∧
    (maintenanceEnterRule f s).2.draws = s.draws ∧ (maintenanceEnterRule f s).2.choices = s.choices ∧
    (maintenanceEnterRule f s).2.clock = s.clock ∧ (maintenanceEnterRule f s).2.marks = s.marks ∧
    (maintenanceEnterRule f s).2.due = s.due ∧ (maintenanceEnterRule f s).2.events = s.events ∧
    (maintenanceEnterRule f s).2.products = s.products ∧ (maintenanceEnterRule f s).2.regions = s.regions ∧
    (maintenanceEnterRule f s).2.store = s.store ∧ (maintenanceEnterRule f s).2.pacing = s.pacing ∧
    (maintenanceEnterRule f s).2.arbiter = s.arbiter ∧ (maintenanceEnterRule f s).2.port = s.port ∧
    (maintenanceEnterRule f s).2.walker = s.walker ∧ (maintenanceEnterRule f s).2.cues = s.cues ∧
    (maintenanceEnterRule f s).2.link = s.link ∧ (maintenanceEnterRule f s).2.notices = s.notices ∧
    (maintenanceEnterRule f s).2.pending = s.pending := by
  unfold maintenanceEnterRule; (try dsimp only); (repeat' split) <;> simp [plainReply]

@[simp] theorem eventActionRule_frame (a : Action) (i c : BitVec 8) (s : State) :
    (eventActionRule a i c s).2.run = s.run ∧ (eventActionRule a i c s).2.osc = s.osc ∧
    (eventActionRule a i c s).2.draws = s.draws ∧ (eventActionRule a i c s).2.sup = s.sup ∧
    (eventActionRule a i c s).2.settings = s.settings ∧ (eventActionRule a i c s).2.clock = s.clock ∧
    (eventActionRule a i c s).2.regions = s.regions ∧ (eventActionRule a i c s).2.store = s.store ∧
    (eventActionRule a i c s).2.pacing = s.pacing ∧ (eventActionRule a i c s).2.port = s.port ∧
    (eventActionRule a i c s).2.cues = s.cues ∧ (eventActionRule a i c s).2.link = s.link ∧
    (eventActionRule a i c s).2.pending = s.pending := by
  unfold eventActionRule; dsimp only; split
  · simp [plainReply]
  · split
    · simp [plainReply]
    · split
      next => simp [plainReply]
      next t h =>
        have f := State.requestAction_frame _ _ _ _ _ _ _ h
        split <;> simp [plainReply, f]

@[simp] theorem purchaseRule_frame (a : BitVec 32) (p : BitVec 8) (s : State) :
    (purchaseRule a p s).2.run = s.run ∧ (purchaseRule a p s).2.osc = s.osc ∧
    (purchaseRule a p s).2.draws = s.draws ∧ (purchaseRule a p s).2.choices = s.choices ∧
    (purchaseRule a p s).2.sup = s.sup ∧ (purchaseRule a p s).2.settings = s.settings ∧
    (purchaseRule a p s).2.clock = s.clock ∧ (purchaseRule a p s).2.marks = s.marks ∧
    (purchaseRule a p s).2.due = s.due ∧ (purchaseRule a p s).2.events = s.events ∧
    (purchaseRule a p s).2.regions = s.regions ∧ (purchaseRule a p s).2.pacing = s.pacing ∧
    (purchaseRule a p s).2.arbiter = s.arbiter ∧ (purchaseRule a p s).2.port = s.port ∧
    (purchaseRule a p s).2.walker = s.walker ∧ (purchaseRule a p s).2.cues = s.cues ∧
    (purchaseRule a p s).2.link = s.link ∧ (purchaseRule a p s).2.pending = s.pending := by
  unfold purchaseRule; (try dsimp only); (repeat' split) <;> simp

@[simp] theorem cancelRule_frame (a : BitVec 32) (p : BitVec 8) (s : State) :
    (cancelRule a p s).2.run = s.run ∧ (cancelRule a p s).2.osc = s.osc ∧ (cancelRule a p s).2.draws = s.draws ∧
    (cancelRule a p s).2.choices = s.choices ∧ (cancelRule a p s).2.sup = s.sup ∧
    (cancelRule a p s).2.settings = s.settings ∧ (cancelRule a p s).2.clock = s.clock ∧
    (cancelRule a p s).2.marks = s.marks ∧ (cancelRule a p s).2.due = s.due ∧
    (cancelRule a p s).2.events = s.events ∧ (cancelRule a p s).2.products = s.products ∧
    (cancelRule a p s).2.regions = s.regions ∧ (cancelRule a p s).2.pacing = s.pacing ∧
    (cancelRule a p s).2.arbiter = s.arbiter ∧ (cancelRule a p s).2.port = s.port ∧
    (cancelRule a p s).2.walker = s.walker ∧ (cancelRule a p s).2.cues = s.cues ∧
    (cancelRule a p s).2.link = s.link ∧ (cancelRule a p s).2.notices = s.notices ∧
    (cancelRule a p s).2.pending = s.pending := by
  have f := State.cancelTest_frame s a p
  unfold cancelRule; split <;> simp_all [plainReply]

@[simp] theorem batchOpenRule_frame (g op : BitVec 8) (n : BitVec 16) (s : State) :
    (batchOpenRule g op n s).2.run = s.run ∧ (batchOpenRule g op n s).2.osc = s.osc ∧
    (batchOpenRule g op n s).2.draws = s.draws ∧ (batchOpenRule g op n s).2.choices = s.choices ∧
    (batchOpenRule g op n s).2.sup = s.sup ∧ (batchOpenRule g op n s).2.settings = s.settings ∧
    (batchOpenRule g op n s).2.clock = s.clock ∧ (batchOpenRule g op n s).2.marks = s.marks ∧
    (batchOpenRule g op n s).2.due = s.due ∧ (batchOpenRule g op n s).2.events = s.events ∧
    (batchOpenRule g op n s).2.products = s.products ∧ (batchOpenRule g op n s).2.regions = s.regions ∧
    (batchOpenRule g op n s).2.store = s.store ∧ (batchOpenRule g op n s).2.pacing = s.pacing ∧
    (batchOpenRule g op n s).2.arbiter = s.arbiter ∧ (batchOpenRule g op n s).2.port = s.port ∧
    (batchOpenRule g op n s).2.walker = s.walker ∧ (batchOpenRule g op n s).2.cues = s.cues ∧
    (batchOpenRule g op n s).2.notices = s.notices ∧ (batchOpenRule g op n s).2.pending = s.pending := by
  unfold batchOpenRule; (try dsimp only); (repeat' split) <;> simp [plainReply]

@[simp] theorem batchDataRule_frame (l : List BatchEntry) (s : State) :
    (batchDataRule l s).2.run = s.run ∧ (batchDataRule l s).2.osc = s.osc ∧ (batchDataRule l s).2.draws = s.draws ∧
    (batchDataRule l s).2.choices = s.choices ∧ (batchDataRule l s).2.sup = s.sup ∧
    (batchDataRule l s).2.settings = s.settings ∧ (batchDataRule l s).2.clock = s.clock ∧
    (batchDataRule l s).2.marks = s.marks ∧ (batchDataRule l s).2.due = s.due ∧
    (batchDataRule l s).2.events = s.events ∧ (batchDataRule l s).2.products = s.products ∧
    (batchDataRule l s).2.regions = s.regions ∧ (batchDataRule l s).2.store = s.store ∧
    (batchDataRule l s).2.pacing = s.pacing ∧ (batchDataRule l s).2.arbiter = s.arbiter ∧
    (batchDataRule l s).2.port = s.port ∧ (batchDataRule l s).2.walker = s.walker ∧
    (batchDataRule l s).2.cues = s.cues ∧ (batchDataRule l s).2.notices = s.notices ∧
    (batchDataRule l s).2.pending = s.pending := by
  unfold batchDataRule; (try dsimp only); (repeat' split) <;> simp [plainReply]

@[simp] theorem batchEndRule_frame (s : State) :
    (batchEndRule s).2.run = s.run ∧ (batchEndRule s).2.osc = s.osc ∧ (batchEndRule s).2.draws = s.draws ∧
    (batchEndRule s).2.choices = s.choices ∧ (batchEndRule s).2.sup = s.sup ∧
    (batchEndRule s).2.settings = s.settings ∧ (batchEndRule s).2.clock = s.clock ∧
    (batchEndRule s).2.marks = s.marks ∧ (batchEndRule s).2.due = s.due ∧ (batchEndRule s).2.events = s.events ∧
    (batchEndRule s).2.products = s.products ∧ (batchEndRule s).2.regions = s.regions ∧
    (batchEndRule s).2.store = s.store ∧ (batchEndRule s).2.pacing = s.pacing ∧
    (batchEndRule s).2.arbiter = s.arbiter ∧ (batchEndRule s).2.port = s.port ∧
    (batchEndRule s).2.walker = s.walker ∧ (batchEndRule s).2.cues = s.cues ∧
    (batchEndRule s).2.notices = s.notices ∧ (batchEndRule s).2.pending = s.pending := by
  unfold batchEndRule; (try dsimp only); (repeat' split) <;> simp [plainReply]

@[simp] theorem showEventRule_frame (i : BitVec 8) (s : State) :
    (showEventRule i s).2.run = s.run ∧ (showEventRule i s).2.osc = s.osc ∧ (showEventRule i s).2.draws = s.draws ∧
    (showEventRule i s).2.choices = s.choices ∧ (showEventRule i s).2.sup = s.sup ∧
    (showEventRule i s).2.settings = s.settings ∧ (showEventRule i s).2.clock = s.clock ∧
    (showEventRule i s).2.marks = s.marks ∧ (showEventRule i s).2.due = s.due ∧
    (showEventRule i s).2.events = s.events ∧ (showEventRule i s).2.products = s.products ∧
    (showEventRule i s).2.regions = s.regions ∧ (showEventRule i s).2.store = s.store ∧
    (showEventRule i s).2.pacing = s.pacing ∧ (showEventRule i s).2.arbiter = s.arbiter ∧
    (showEventRule i s).2.port = s.port ∧ (showEventRule i s).2.walker = s.walker ∧
    (showEventRule i s).2.cues = s.cues ∧ (showEventRule i s).2.link = s.link ∧
    (showEventRule i s).2.notices = s.notices ∧ (showEventRule i s).2.pending = s.pending := by
  unfold showEventRule; (try dsimp only); (repeat' split) <;> simp [plainReply]

@[simp] theorem showProductRule_frame (i : BitVec 8) (s : State) :
    (showProductRule i s).2.run = s.run ∧ (showProductRule i s).2.osc = s.osc ∧
    (showProductRule i s).2.draws = s.draws ∧ (showProductRule i s).2.choices = s.choices ∧
    (showProductRule i s).2.sup = s.sup ∧ (showProductRule i s).2.settings = s.settings ∧
    (showProductRule i s).2.clock = s.clock ∧ (showProductRule i s).2.marks = s.marks ∧
    (showProductRule i s).2.due = s.due ∧ (showProductRule i s).2.events = s.events ∧
    (showProductRule i s).2.products = s.products ∧ (showProductRule i s).2.regions = s.regions ∧
    (showProductRule i s).2.store = s.store ∧ (showProductRule i s).2.pacing = s.pacing ∧
    (showProductRule i s).2.arbiter = s.arbiter ∧ (showProductRule i s).2.port = s.port ∧
    (showProductRule i s).2.walker = s.walker ∧ (showProductRule i s).2.cues = s.cues ∧
    (showProductRule i s).2.link = s.link ∧ (showProductRule i s).2.notices = s.notices ∧
    (showProductRule i s).2.pending = s.pending := by
  unfold showProductRule; (try dsimp only); (repeat' split) <;> simp [plainReply]

@[simp] theorem showRecordRule_frame (b : BitVec 32) (p : BitVec 8) (s : State) :
    (showRecordRule b p s).2.run = s.run ∧ (showRecordRule b p s).2.osc = s.osc ∧
    (showRecordRule b p s).2.draws = s.draws ∧ (showRecordRule b p s).2.choices = s.choices ∧
    (showRecordRule b p s).2.sup = s.sup ∧ (showRecordRule b p s).2.settings = s.settings ∧
    (showRecordRule b p s).2.clock = s.clock ∧ (showRecordRule b p s).2.marks = s.marks ∧
    (showRecordRule b p s).2.due = s.due ∧ (showRecordRule b p s).2.events = s.events ∧
    (showRecordRule b p s).2.products = s.products ∧ (showRecordRule b p s).2.regions = s.regions ∧
    (showRecordRule b p s).2.store = s.store ∧ (showRecordRule b p s).2.pacing = s.pacing ∧
    (showRecordRule b p s).2.arbiter = s.arbiter ∧ (showRecordRule b p s).2.port = s.port ∧
    (showRecordRule b p s).2.walker = s.walker ∧ (showRecordRule b p s).2.cues = s.cues ∧
    (showRecordRule b p s).2.link = s.link ∧ (showRecordRule b p s).2.notices = s.notices ∧
    (showRecordRule b p s).2.pending = s.pending := by
  unfold showRecordRule; (try dsimp only); (repeat' split) <;> simp [plainReply]

@[simp] theorem showDecoderRule_frame (a : BitVec 32) (s : State) :
    (showDecoderRule a s).2.run = s.run ∧ (showDecoderRule a s).2.osc = s.osc ∧
    (showDecoderRule a s).2.draws = s.draws ∧ (showDecoderRule a s).2.choices = s.choices ∧
    (showDecoderRule a s).2.sup = s.sup ∧ (showDecoderRule a s).2.settings = s.settings ∧
    (showDecoderRule a s).2.clock = s.clock ∧ (showDecoderRule a s).2.marks = s.marks ∧
    (showDecoderRule a s).2.due = s.due ∧ (showDecoderRule a s).2.events = s.events ∧
    (showDecoderRule a s).2.products = s.products ∧ (showDecoderRule a s).2.regions = s.regions ∧
    (showDecoderRule a s).2.store = s.store ∧ (showDecoderRule a s).2.pacing = s.pacing ∧
    (showDecoderRule a s).2.arbiter = s.arbiter ∧ (showDecoderRule a s).2.port = s.port ∧
    (showDecoderRule a s).2.walker = s.walker ∧ (showDecoderRule a s).2.cues = s.cues ∧
    (showDecoderRule a s).2.link = s.link ∧ (showDecoderRule a s).2.notices = s.notices ∧
    (showDecoderRule a s).2.pending = s.pending := by
  unfold showDecoderRule; (try dsimp only); (repeat' split) <;> simp [plainReply]

@[simp] theorem noticesRule_frame (s : State) :
    (noticesRule s).2.run = s.run ∧ (noticesRule s).2.osc = s.osc ∧ (noticesRule s).2.draws = s.draws ∧
    (noticesRule s).2.choices = s.choices ∧ (noticesRule s).2.sup = s.sup ∧ (noticesRule s).2.settings = s.settings ∧
    (noticesRule s).2.clock = s.clock ∧ (noticesRule s).2.marks = s.marks ∧ (noticesRule s).2.due = s.due ∧
    (noticesRule s).2.events = s.events ∧ (noticesRule s).2.products = s.products ∧
    (noticesRule s).2.regions = s.regions ∧ (noticesRule s).2.store = s.store ∧ (noticesRule s).2.pacing = s.pacing ∧
    (noticesRule s).2.arbiter = s.arbiter ∧ (noticesRule s).2.port = s.port ∧ (noticesRule s).2.walker = s.walker ∧
    (noticesRule s).2.cues = s.cues ∧ (noticesRule s).2.link = s.link ∧ (noticesRule s).2.pending = s.pending := by
  unfold noticesRule; (try dsimp only); (repeat' split) <;> simp

@[simp] theorem resetTablesRule_frame (f : BitVec 8) (s : State) :
    (resetTablesRule f s).2.run = s.run ∧ (resetTablesRule f s).2.osc = s.osc ∧
    (resetTablesRule f s).2.draws = s.draws ∧ (resetTablesRule f s).2.choices = s.choices ∧
    (resetTablesRule f s).2.sup = s.sup ∧ (resetTablesRule f s).2.settings = s.settings ∧
    (resetTablesRule f s).2.clock = s.clock ∧ (resetTablesRule f s).2.marks = s.marks ∧
    (resetTablesRule f s).2.due = s.due ∧ (resetTablesRule f s).2.events = s.events ∧
    (resetTablesRule f s).2.products = s.products ∧ (resetTablesRule f s).2.regions = s.regions ∧
    (resetTablesRule f s).2.store = s.store ∧ (resetTablesRule f s).2.pacing = s.pacing ∧
    (resetTablesRule f s).2.arbiter = s.arbiter ∧ (resetTablesRule f s).2.port = s.port ∧
    (resetTablesRule f s).2.walker = s.walker ∧ (resetTablesRule f s).2.cues = s.cues ∧
    (resetTablesRule f s).2.notices = s.notices ∧ (resetTablesRule f s).2.pending = s.pending := by
  unfold resetTablesRule State.orderReset; split <;> simp [plainReply]

end Sys2Proof.Machine
end

