-- ==== Sys2Proof/Laws/Wire.lean ====
section
/-! SUPPORT. The bytes of numbers: what they spell, and layouts one after another (R182). -/

namespace Sys2Proof.Machine

/-- What two runs of bytes spell together. -/
theorem bigEndian_append (a b : List Byte) : bigEndian (a ++ b) = bigEndian a * 256 ^ b.length + bigEndian b := by
  have key : ∀ (b : List Byte) (n : Nat),
      b.foldl (fun n b => 256 * n + b.toNat) n = n * 256 ^ b.length + bigEndian b := by
    intro b
    induction b with
    | nil => simp [bigEndian]
    | cons x xs ih =>
      intro n
      simp only [bigEndian, List.foldl_cons, List.length_cons, Nat.pow_succ] at ih ⊢
      rw [ih, ih (256 * 0 + x.toNat), Nat.add_mul, Nat.add_mul, Nat.mul_zero, Nat.zero_mul, Nat.mul_comm 256 n,
        Nat.mul_assoc, Nat.mul_comm 256 (256 ^ xs.length)]
      omega
  rw [bigEndian, List.foldl_append, key b]
  rfl

@[simp] theorem natBytes_length (k n : Nat) : (natBytes k n).length = k := by
  induction k generalizing n with
  | zero => rfl
  | succ k ih => simp [natBytes, ih]

/-- A number that fits its width is what its bytes spell (R182). -/
theorem bigEndian_natBytes (k n : Nat) (h : n < 256 ^ k) : bigEndian (natBytes k n) = n := by
  induction k generalizing n with
  | zero =>
    have : n = 0 := by simpa using h
    subst this
    rfl
  | succ k ih =>
    rw [Nat.pow_succ] at h
    rw [natBytes, bigEndian_append, ih (n / 256) (by omega)]
    simp [bigEndian]
    omega

theorem bigEndian_bytes16 (v : BitVec 16) : bigEndian (bytes16 v) = v.toNat := by
  simp [bytes16, bigEndian]
  omega

theorem bigEndian_bytes32 (v : BitVec 32) : bigEndian (bytes32 v) = v.toNat := by
  simp only [bytes32, bigEndian_append, bigEndian_bytes16]
  simp [bytes16]
  omega

theorem bigEndian_bytes64 (v : BitVec 64) : bigEndian (bytes64 v) = v.toNat := by
  simp only [bytes64, bigEndian_append, bigEndian_bytes32]
  simp [bytes32, bytes16]
  omega

theorem bigEndian_productSetBytes (v : BitVec 48) : bigEndian (productSetBytes v) = v.toNat := by
  simp only [productSetBytes, bigEndian_append, bigEndian_bytes16, bigEndian_bytes32]
  simp [bytes32, bytes16]
  omega

/-- One field of a layout. -/
theorem LaysOut_one (a : List Byte) (width value : Nat) (h : a.length = width) (hv : bigEndian a = value) :
    LaysOut a [(width, value)] := by
  refine ⟨Nat.le_of_eq h.symm, ?_, ?_⟩
  · rw [← h, List.take_length]; exact hv
  · rw [← h, List.drop_length]; rfl

/-- Layouts one after another. -/
theorem LaysOut_append (a b : List Byte) (f g : List (Nat × Nat)) (ha : LaysOut a f) (hb : LaysOut b g) :
    LaysOut (a ++ b) (f ++ g) := by
  induction f generalizing a with
  | nil =>
    have : a = [] := ha
    subst this
    exact hb
  | cons x xs ih =>
    obtain ⟨width, value⟩ := x
    obtain ⟨h1, h2, h3⟩ := ha
    refine ⟨by rw [List.length_append]; omega, ?_, ?_⟩
    · rw [List.take_append_of_le_length h1]; exact h2
    · rw [List.drop_append_of_le_length h1]; exact ih _ h3

/-- A layout of items, each laid out by itself. -/
theorem LaysOut_flatMap {α : Type} (l : List α) (bytes : α → List Byte) (fields : α → List (Nat × Nat))
    (h : ∀ x ∈ l, LaysOut (bytes x) (fields x)) : LaysOut (l.flatMap bytes) (l.flatMap fields) := by
  induction l with
  | nil => rfl
  | cons x xs ih =>
    simp only [List.flatMap_cons]
    exact LaysOut_append _ _ _ _ (h x (.head _)) (ih fun y hy => h y (.tail _ hy))

theorem Fits_append (f g : List (Nat × Nat)) : Fits (f ++ g) ↔ Fits f ∧ Fits g := by
  simp [Fits, or_imp, forall_and]

end Sys2Proof.Machine
end

