-- ==== Sys2Proof/Tests/Slice0.lean ====
section
/-! SUPPORT. Tests: ill-formed terms, frames written out from the layouts, steps of the spec's worked examples, and for
each statement with hypotheses a state and operands that meet them. Expected values are the spec's own. -/

namespace Sys2Proof.Tests

open Sys2Proof Sys2Proof.Machine

/-! ### Small states -/

/-- A header with TAG 0x2A. -/
def hdr (len : Nat) : Hdr := ⟨0x2A, len⟩

/-- The state that a command leaves. -/
def after (c : Instr) (s : State) : State :=
  match exec c s with
  | .next t => t
  | _ => s

/-- The status of the last frame handed to the transmitter. -/
def said (s : State) : Option Status := s.link.tx.getLast?.map fun o => o.reply.status

/-- The part in a mode at 1,000.250, with empty tables and no notice. -/
def inMode (m : Mode) : State :=
  { State.reset with
    sup := { State.reset.sup with
      mode := m, period := if m.supervised then some ⟨2000, 1500⟩ else none,
      configTimer := if m = .configuring then some 120000 else none }
    clock := ⟨1000, 250, true, true, false, 0, some 3000, 0⟩
    port := { State.reset.port with starvation := if m.ranked then some 2000 else none }
    notices := .empty }

/-- An event in a state. -/
def entry (st : EvState) : EventEntry :=
  { state := st, saleOpen := 100, kickoff := 2000, nominalEnd := 8000, late := 300, grace := 60, allowance := 1800,
    extension := 0, actualKickoff := some 900, finish := some 950,
    suspension := if st = .suspended then some ⟨960, 0, .live⟩ else none, blackout := 0, cueBound := false,
    lastAnnounced := none }

/-- The part with event n in a state, its mark placed, and product 0 SINGLE over it. -/
def holds (m : Mode) (n : Nat) (st : EvState) : State :=
  { inMode m with
    events := emptyEvents.set n (some (entry st))
    marks := ((entry st).markFor n 600).toList
    products := emptyProducts.set 0 ⟨some ⟨.single, [n], (entry st).bound, .alive⟩, 0⟩ }

/-- The record of block 40,213 and product 0, with slot 17 set. -/
def recordIn (place : Place) (stamp : Option Stamp) : GrantRecord := ⟨⟨40213, 0⟩, 0x20000, place, stamp, 1⟩

/-- The store with that record alone. -/
def storeOf (r : GrantRecord) : GrantStore :=
  let l (n : ListName) := if r.place.listName = n then [r.key] else []
  ⟨[r], l .prompt, l .ring, l .revoking, true⟩

/-- The part that sells product 0 over event 0, with one record. -/
def selling (r : GrantRecord) : State :=
  { holds .serving 0 .onSale with
    store := storeOf r
    products := emptyProducts.set 0 ⟨some ⟨.single, [0], .closedAt 8060, .alive⟩, 1⟩ }

/-- An open PURCHASE batch of two items with TAG 0x30. -/
def batch : Batch := ⟨false, 2, 0x30, 0, 0, 0, 0, ⟨0, 0, 0, 0, 0, 0, 0⟩, 0, [], 700⟩

/-- The part with a line bound, in a state of its own. -/
def lineIs (m : Mode) (n : Nat) (st : LineState) (a : CueAction) : State :=
  let s := holds m 5 .live
  s.setLine n ⟨st, some ⟨5, a, false, 50⟩, 0, none⟩

/-! ### Ill-formed terms -/

theorem test_refuses_short_body : (Instr.status ⟨0, 1⟩).wellFormed = false := by decide
theorem test_refuses_long_body : (Instr.status ⟨0, 251⟩).wellFormed = false := by decide
theorem test_refuses_region_set_with_clear_form :
    (Instr.regionRuleSet (hdr 11) 2 0 0 0 0).wellFormed = false := by decide
theorem test_refuses_region_clear_with_set_form : (Instr.regionRuleClear (hdr 4) 1 0).wellFormed = false := by decide
theorem test_refuses_define_with_drop_form :
    (Instr.productDefine (hdr 6) 2 0 1 [0]).wellFormed = false := by decide
theorem test_refuses_define_with_list_of_another_length :
    (Instr.productDefine (hdr 6) 1 0 1 [0, 1]).wellFormed = false := by decide
theorem test_refuses_drop_with_define_form : (Instr.productDrop (hdr 4) 1 0).wellFormed = false := by decide
theorem test_refuses_unbind_with_release_form : (Instr.cueClearUnbind (hdr 4) 0 2).wellFormed = false := by decide
theorem test_refuses_release_with_unbind_form : (Instr.cueClearRelease (hdr 4) 0 1).wellFormed = false := by decide
theorem test_refuses_enter_with_exit_form : (Instr.maintenanceEnter (hdr 3) 2).wellFormed = false := by decide
theorem test_refuses_exit_with_enter_form : (Instr.maintenanceExit (hdr 3) 1).wellFormed = false := by decide
theorem test_refuses_open_sale_with_another_action :
    (Instr.eventActionOpenSale (hdr 4) 0 7).wellFormed = false := by decide
theorem test_refuses_other_actions_with_open_sale :
    (Instr.eventActionKickoff (hdr 4) 0 1).wellFormed = false ∧ (Instr.eventActionOvertime (hdr 4) 0 1).wellFormed = false ∧
    (Instr.eventActionSuspend (hdr 4) 0 1).wellFormed = false ∧ (Instr.eventActionResume (hdr 4) 0 1).wellFormed = false ∧
    (Instr.eventActionFinish (hdr 4) 0 1).wellFormed = false ∧
    (Instr.eventActionVoid (hdr 4) 0 1).wellFormed = false := by decide
theorem test_refuses_batch_data_with_items_of_another_count :
    (Instr.batchData (hdr 7) []).wellFormed = false := by decide
theorem test_refuses_reset_tables_with_full_form : (Instr.resetTables (hdr 3) 2).wellFormed = false := by decide
theorem test_refuses_reset_full_with_tables_form : (Instr.resetFull (hdr 3) 1).wellFormed = false := by decide
theorem test_refuses_known_kind_as_unknown : (Instr.unknownKind (hdr 2) 0x1C).wellFormed = false := by decide
theorem test_refuses_line_8 :
    (Instr.cuePinChange 8 true).wellFormed = false ∧ (Instr.debounceExpiry 8 0).wellFormed = false ∧
    (Instr.coolingTimerExpiry 8).wellFormed = false := by decide

/-! ### Wires: check values of R171 and R189, and bodies written out from R183 to R185 and R190 -/

/-- R170: the ten bit times of 0xA5, start bit first and data least significant bit first; ten levels without a stop bit
carry no byte. -/
theorem test_character_of_R170 :
    characterBits 0xA5 = [false, true, false, true, false, false, true, false, true, true] ∧
    byteOfCharacter [false, true, false, true, false, false, true, false, true, true] = some 0xA5 ∧
    byteOfCharacter [false, true, false, true, false, false, true, false, true, false] = none := by decide
/-- The line is idle with nothing to send; the frame of a reply begins with the character of START. -/
theorem test_line_of_R170 :
    let s := after (.status (hdr 2)) (inMode .serving)
    (inMode .serving).olTxd 0 = true ∧ (List.range 10).map s.olTxd = characterBits 0xA5 ∧
    ({ s with run := .heldInReset } : State).olTxd 0 = true := by decide

/-- The characters "123456789". -/
def digits : List Byte := [0x31, 0x32, 0x33, 0x34, 0x35, 0x36, 0x37, 0x38, 0x39]

theorem test_crc16_check_value : crc16 digits = 0x29B1 := by decide +kernel
theorem test_crc32_check_value : crc32 digits = 0xFC891918 := by decide +kernel
theorem test_decodes_set : decodeFrame [0x01, 7, 0x09, 0, 0, 1, 0x2C] = some (.set ⟨7, 7⟩ 0x09 300) := by decide
theorem test_decodes_clock_set :
    decodeFrame [0x04, 7, 0, 1, 0, 0, 3, 0xE7] = some (.clockSet ⟨7, 8⟩ 65536 999) := by decide
theorem test_decodes_region_rule :
    decodeFrame [0x07, 7, 1, 31, 0, 0x9C, 0, 0x0F, 0xFF, 0, 12] =
      some (.regionRuleSet ⟨7, 11⟩ 1 31 0x09C00 0xFFF00 12) := by decide
theorem test_decodes_event :
    decodeFrame [0x08, 7, 3, 0, 0, 0, 1, 0, 0, 0, 2, 0, 0, 0, 3, 0, 4, 0, 5, 0, 60] =
      some (.event ⟨7, 21⟩ 3 1 2 3 4 5 60) := by decide
theorem test_decodes_product_pass :
    decodeFrame [0x0B, 7, 1, 5, 2, 3, 4] = some (.productDefine ⟨7, 7⟩ 1 5 2 [3, 4]) := by decide
theorem test_decodes_cue_bind :
    decodeFrame [0x0C, 7, 2, 5, 4, 0, 0, 50] = some (.cueBind ⟨7, 8⟩ 2 5 4 0 50) := by decide
theorem test_decodes_keepalive : decodeFrame [0x0E, 7, 2, 3] = some (.keepalive ⟨7, 4⟩ 2 3) := by decide
theorem test_decodes_event_action_void : decodeFrame [0x10, 7, 4, 7] = some (.eventActionVoid ⟨7, 4⟩ 4 7) := by decide
theorem test_decodes_purchase :
    decodeFrame [0x11, 0x12, 0, 0x27, 0x45, 0x51, 5] = some (.purchase ⟨0x12, 7⟩ 0x274551 5) := by decide
theorem test_decodes_batch_data :
    decodeFrame [0x14, 7, 0, 0x27, 0x45, 0x51, 5, 0, 0, 0, 1, 2] =
      some (.batchData ⟨7, 12⟩ [⟨0x274551, 5⟩, ⟨1, 2⟩]) := by decide
theorem test_decodes_show_record :
    decodeFrame [0x19, 7, 0, 0, 0x9D, 0x15, 5] = some (.showRecord ⟨7, 7⟩ 40213 5) := by decide
theorem test_decodes_reset_full : decodeFrame [0x1C, 7, 2] = some (.resetFull ⟨7, 3⟩ 2) := by decide
theorem test_decodes_unknown_kind : decodeFrame [0x80, 7] = some (.unknownKind ⟨7, 2⟩ 0x80) := by decide
/-- 40213.17 is the address 40,213 times 64 plus 17 (section 6 of 00_scope.md). -/
theorem test_address_splits : blockOf 0x274551 = 40213 ∧ slotOf 0x274551 = 17 := by decide

/-! ### Worked examples -/

/-- The Region Map of the example of R25. -/
def regionMap : State :=
  after (.regionRuleSet (hdr 11) 1 1 0 0xF0000 3) { after (.regionRuleSet (hdr 11) 1 0 0x09C00 0xFFF00 12)
    { inMode .configuring with settings := { State.reset.settings with
        current := { Settings.defaults with defaultRegion := 5 } } } with link := .start 0 }

theorem test_regions_of_R25 :
    regionMap.regionOf 40213 = 3 ∧ regionMap.regionOf 40000 = 12 ∧ regionMap.regionOf 700000 = 5 := by decide

/-- Event 3 of section 1.4 at OVERTIME, 72,750, and its suspension from 74,000.250 to 74,419.900. -/
def event3 : EventEntry :=
  { entry .live with kickoff := 67500, nominalEnd := 72900, late := 600, grace := 900, actualKickoff := some 67512 }

/-- The part of section 1.4 at a broadcast time. -/
def evening (e : EventEntry) (seconds ms : Nat) : State :=
  { inMode .serving with
    clock := ⟨seconds, ms, true, true, false, 0, some 3000, 0⟩
    events := emptyEvents.set 3 (some e)
    products := emptyProducts.set 2 ⟨some ⟨.single, [3], e.bound, .alive⟩, 0⟩ }

theorem test_overtime_of_section_1_4 :
    let t := after (.eventActionOvertime (hdr 4) 3 3) (evening event3 72750 0)
    t.eventBound 3 = .closedAt 75600 ∧ t.marks = [⟨3, .finish, 74700⟩] ∧
    t.walker.running = some ⟨.extend, 4, none, 0⟩ := by decide
theorem test_resume_of_section_1_4 :
    let e := { event3 with
      state := .suspended, extension := 1800, suspension := some ⟨74000, 250, .overtime⟩ }
    let t := after (.eventActionResume (hdr 4) 3 5) (evening e 74419 900)
    t.eventBound 3 = .closedAt 76020 ∧ t.marks = [⟨3, .finish, 75120⟩] ∧ t.walker.running = none := by decide
theorem test_overtime_is_capped :
    let e := { event3 with extension := 5400, allowance := 3600 }
    ((after (.eventActionOvertime (hdr 4) 3 3) (evening e 72750 0)).notices.queue.map Notice.value).head? =
      some (.quantity 1800) := by decide
/-- Close mark of event 3: the product dies and PURGE is requested. -/
theorem test_close_of_section_1_4 :
    let e := { event3 with state := .ended, finish := some 75010 }
    let s := { evening e 75910 0 with marks := [⟨3, .close, 75910⟩], due := ⟨[75910], false, 0, 0⟩ }
    let t := after .markFiring s
    t.eventBound 3 = .noBound ∧ (t.product? 2).map ProductDef.life = some .dead ∧
    t.walker.running = some ⟨.purge, 4, none, 0⟩ ∧ t.due = .idle := by decide

/-- The Pacing Unit of section 4.4: F = 40, A16 = 48,000, S = 2,200. -/
theorem test_rate_interval_of_section_4_4 :
    let p := (State.reset.pacing)
    let q := Pacing.interval { p with seeded := true, a16 := 48000, slotCount := 2200 } 40
    let r := Pacing.interval { q with slotCount := 900 } 40
    (q.a16, q.capacity, r.a16, r.capacity) = (46400, 1160, 42400, 1060) := by decide
theorem test_target_windows_of_section_4_4 :
    targetWindow 41300 1160 60 8 = (60, false) ∧ targetWindow 52000 1060 60 8 = (60, false) ∧
    targetWindow 52000 972 60 8 = (62, false) ∧ targetWindow 52000 0 60 8 = (3600, true) := by decide
theorem test_horizons_of_section_4_4 :
    stampOf false 72000 62 (.closedAt 73800) = ⟨72062, false⟩ ∧
    stampOf false 72000 62 (.closedAt 72030) = ⟨72030, true⟩ ∧ joiningDue 72000 62 8 none = 72054 := by decide
/-- The tail floor of section 4.1.2: W_eff 61, G 12 at 80,021 behind a tail of 80,074. -/
theorem test_tail_floor_of_section_4_1_2 : joiningDue 80021 61 12 (some 80074) = 80074 := by decide

/-- Section 3.5: a purchase of 40213.17, and the grant that emits its record at 67,540. -/
theorem test_purchase_creates_a_prompt_record :
    let t := after (.purchase (hdr 7) 0x274551 0) (holds .serving 0 .onSale)
    said t = some .done ∧ t.store.prompt = [⟨40213, 0⟩] ∧
    (t.store.find ⟨40213, 0⟩).map GrantRecord.map = some 0x20000 := by decide
theorem test_purchase_of_a_held_bit_is_duplicate :
    said (after (.purchase (hdr 7) 0x274551 0) (selling (recordIn .prompt none))) = some .duplicate := by decide
theorem test_cancel_moves_to_revocation :
    let t := after (.cancel (hdr 7) 0x274551 0) (selling (recordIn (.ring 1052) (some ⟨1060, false⟩)))
    said t = some .done ∧ t.store.revoking = [⟨40213, 0⟩] ∧ t.store.ring = [] := by decide
theorem test_slot_grant_emits_the_prompt_head :
    let t := after (.slotGrant 1000) (selling (recordIn .prompt none))
    t.port.transfer = .shifting ⟨1, .grant 0 40213 0x20000 1060 false false 0⟩ 256 ∧
    t.store.dueOf ⟨40213, 0⟩ = some 1052 := by decide
theorem test_close_slot_grant_is_ignored :
    let s := { inMode .serving with port := { State.reset.port with lastGrant := some 1000 } }
    after (.slotGrant 1199) s = s ∧ (after (.slotGrant 1200) s).port.lastGrant = some 1200 := by decide

/-- Section 7.3.1: pulses at ms 998, 400, and a third off-phase pulse at ms 402. -/
def clockAt (seconds ms offPhase : Nat) : State :=
  (inMode .serving).withClock ⟨seconds, ms, true, true, false, offPhase, some 100, 0⟩

theorem test_pulses_of_section_7_3_1 :
    (after .pulse (clockAt 80009 998 0)).clock = ⟨80010, 0, true, true, false, 0, some 3000, 0⟩ ∧
    (after .pulse (clockAt 80010 400 0)).clock = ⟨80010, 400, true, true, false, 1, some 3000, 0⟩ ∧
    (after .pulse (clockAt 80012 402 2)).clock = ⟨80012, 0, true, true, false, 0, some 3000, 0⟩ := by decide
theorem test_restoring_pulse_of_section_7_3_1 :
    let t := after .pulse ((inMode .serving).withClock ⟨80019, 640, true, false, true, 0, none, 0⟩)
    t.clock = ⟨80020, 0, true, true, false, 0, some 3000, 0⟩ ∧
    t.notices.queue.map Notice.value = [.quantity 640] := by decide

/-- Section 8.6: the fifth edge, 2,000 ms after the first, begins an episode; a shorter history accepts its edge. -/
theorem test_fifth_edge_is_chatter :
    let s := lineIs .serving 2 (.armed true (some 0) [200050, 200650, 201350, 201850]) .hold
    let t := after (.debounceExpiry 2 202050) s
    (t.cues.line 2).state = .cooling 10000 ∧ (t.cues.line 2).episodes = 1 ∧
    (t.event? 5).map EventEntry.state = some .live := by decide
theorem test_edge_suspends :
    let t := after (.debounceExpiry 2 200050) (lineIs .serving 2 (.armed true (some 0) []) .hold)
    (t.cues.line 2).state = .armed false none [200050] ∧
    (t.event? 5).map EventEntry.suspension = some (some ⟨1000, 250, .live⟩) := by decide

/-- Section 9.2.1: parts in force 2, window on, challenge 92, answer 163 in parts 10 and 3. -/
def keeping (collection faults elapsed : Nat) : State :=
  { inMode .serving with
    sup := { (inMode .serving).sup with
      challenge := 92, collection := collection, faults := faults, period := some ⟨2000, elapsed⟩, windowOn := true }
    settings := { State.reset.settings with
      current := { Settings.defaults with partsCount := 2, windowMode := 1 },
      inForce := { InForce.ofSettings .defaults with partsCount := 2, windowMode := 1 } } }

theorem test_parts_of_section_9_2_1 : expectedPart 92 2 1 = 10 ∧ expectedPart 92 2 2 = 3 := by decide
theorem test_first_part_is_taken :
    said (after (.keepalive (hdr 4) 1 10) (keeping 0 0 300)) = some .partTaken := by decide
theorem test_early_part_is_a_fault :
    let t := after (.keepalive (hdr 4) 2 3) (keeping 1 0 700)
    said t = some .faultEarly ∧ t.sup.faults = 1 ∧ t.sup.challenge = 92 ∧ t.sup.period = some ⟨2000, 0⟩ := by
  decide
theorem test_final_part_in_the_window_completes :
    let t := after (.keepalive (hdr 4) 2 3) (keeping 1 1 1250)
    said t = some .done ∧ t.sup.faults = 0 ∧ t.sup.collection = 0 := by decide
theorem test_missed_period_enters_holdover :
    let t := after .periodTimerExpiry (keeping 1 1 2000)
    t.sup.mode = .holdover ∧ t.sup.faults = 0 ∧ t.sup.challenge = 92 ∧
    t.notices.queue.map Notice.kind = [.supervisionFault, .holdoverEntered] := by decide

/-- Section 10.4.1: a full queue takes a more urgent notice in the place of the newest of the least urgent level. -/
theorem test_full_queue_displaces :
    let n (level : Nat) : Notice := ⟨.lapse, level, 0, 0, .none, .quantity 0⟩
    let q : NoticeQueue := ⟨List.replicate 40 (n 6) ++ List.replicate 24 (n 4), false, false⟩
    q.take 3 (n 2) = ⟨List.replicate 39 (n 6) ++ List.replicate 24 (n 4) ++ [n 2], true, true⟩ ∧
    q.take 3 (n 6) = { q with overflow := true } := by decide +kernel

/-- Section 10.5: a STATUS frame with TAG 0x11 completes with a good CRC, and one with a bad CRC counts an error. -/
def inFrame (bytes : List Byte) : State :=
  (inMode .serving).withLink { (inMode .serving).link with framing := .inFrame bytes }

theorem test_good_frame_is_held :
    let crc := crc16 [2, 0x16, 0x11]
    let t := after (.frameCompletes (crc.setWidth 8)) (inFrame [0xA5, 2, 0x16, 0x11, (crc >>> 8).setWidth 8])
    t.link.holding = [[0x16, 0x11]] ∧ t.link.framing = .hunt true ∧ t.link.errors = 0 := by decide +kernel
theorem test_bad_frame_is_counted :
    let t := after (.frameCompletes 0) (inFrame [0xA5, 2, 0x16, 0x11, 0])
    t.link.holding = [] ∧ t.link.framing = .hunt false ∧ t.link.errors = 1 := by decide +kernel

/-- The first step on an empty queue takes a held frame into the queue (log 1). -/
theorem test_idle_takes_a_held_frame :
    let s := (inMode .serving).withLink { (inMode .serving).link with framing := .hunt true, holding := [[0x16, 0x11]] }
    s.idle.pending = [.status ⟨0x11, 2⟩] := by decide
theorem test_pending_jobs_start_in_order :
    (Walker.startNext ⟨some ⟨.extend, 1, none, 318⟩, some 2, some 4, some 8⟩) =
      ⟨some ⟨.void, 2, none, 0⟩, none, some 4, some 8⟩ := by decide
theorem test_status_reply_has_52_bytes :
    (Reply.body ⟨0x96, 0x11, .done, .status State.reset.report⟩).length = 52 := by decide
theorem test_carousel_frame_has_32_bytes :
    (CarouselFrame.bytes ⟨1, .grant 0 40213 0x20000 1060 false false 0⟩).length = 32 := by decide

/-! ### Witnesses: for each statement with hypotheses, a state and operands that meet them, clause by clause

The clauses are numbered as in the statement. Commands that share their hypotheses share a witness state. -/

theorem witness_StepRunsTheFrontCommand :
    ((inMode .serving).withPending [.status (hdr 2), .pulse]).pending = .status (hdr 2) :: [.pulse] := rfl

theorem witness_EveryResetEmptiesTheTables :
    ((inMode .serving).run = .running ∧ ∃ t, exec .resetTablesActs (inMode .serving) = .next t) ∧
    ((inMode .configuring).sup.configTimer.isSome = true ∧
      ∃ t, exec .configuringWindowExpiry (inMode .configuring) = .next t) ∧
    (∃ t, exec (.powerOn true true) { inMode .serving with run := .unpowered } = .next t) ∧
    (({ inMode .serving with run := .heldInReset } : State).run ≠ .unpowered ∧
      ∃ t, exec (.resetLine false true) { inMode .serving with run := .heldInReset } = .next t) :=
  ⟨⟨rfl, _, rfl⟩, ⟨rfl, _, rfl⟩, ⟨_, rfl⟩, nofun, _, rfl⟩

theorem witness_SetTakesOrClampsItsValue :
    (inMode .standdown).ready ∧ (inMode .serving).ready ∧ settingModes (inMode .serving).sup.mode ∧ (hdr 7).len = 7 ∧
    (0x30#8).toNat ∉ [0x07, 0x09, 0x0B, 0x10, 0x11] ∧ settingAdmits Settings.defaults 0x36 = none ∧
    settingAdmits Settings.defaults 0x01 = some (.codes [0, 1, 2, 3]) ∧
    settingAdmits Settings.defaults 0x35 = some (.range 0 7) :=
  ⟨by decide, by decide, .inr (.inl rfl), rfl, by decide, rfl, rfl, rfl⟩

theorem witness_WritingASettingWritesOnlyIt :
    Settings.defaults.levels.length = 21 ∧ (settingValue .defaults 0x01).isSome = true ∧
    (settingValue .defaults 0x35).isSome = true := by decide

theorem witness_SetOfTheWindowActsOnPacing :
    (inMode .maintenance).ready ∧ settingModes (inMode .maintenance).sup.mode ∧ (hdr 7).len = 7 :=
  ⟨by decide, .inr (.inr rfl), rfl⟩

theorem witness_SetOfTheOtherActingSettings :
    (inMode .configuring).ready ∧ settingModes (inMode .configuring).sup.mode ∧ (hdr 7).len = 7 :=
  ⟨by decide, .inl rfl, rfl⟩

/-- The part with a write under way. -/
def saving : State :=
  ((inMode .serving).withSettings { State.reset.settings with writing := some (.defaults, 40) }).withLink
    { (inMode .serving).link with service := some ⟨0x03, 0x2A, .writing⟩ }

theorem witness_SaveSettingsWritesTheSnapshot :
    ((inMode .serving).ready ∧ settingModes (inMode .serving).sup.mode ∧ (hdr 2).len = 2) ∧
    saving.run = .running ∧ saving.settings.writing = some (.defaults, 40) ∧
    saving.link.service = some ⟨0x03, 0x2A, .writing⟩ :=
  ⟨⟨by decide, .inr (.inl rfl), rfl⟩, rfl, rfl, rfl⟩

theorem witness_StoredCopyChangesOnlyByAWrite :
    (inMode .serving).settings.writing = none ∧ ∃ t, exec .resetFullActs (inMode .serving) = .next t :=
  ⟨rfl, _, rfl⟩

/-- The part in MAINTENANCE at `ms`, in the last millisecond of a hold. -/
def holdEnding (ms : Nat) : State := (inMode .maintenance).withClock ⟨1000, ms, true, true, false, 0, some 3000, 1⟩

/-- R129: a hold taken at millisecond 0 ends in the millisecond in which the milliseconds return, and no second is added. -/
theorem test_hold_ends_with_the_return :
    let t := (holdEnding 999).tick
    t.pending = [.msRollover, .holdExpires] ∧
    (after .holdExpires (after .msRollover t)).clock = ⟨1000, 0, true, true, false, 0, some 2999, 0⟩ := by decide

/-- A free link with a held STATUS frame, in the millisecond in which a cooling timer has run out. -/
def waiting : State :=
  (lineIs .maintenance 7 (.cooling 0) .hold).withLink { State.reset.link with holding := [[0x16, 0x2A], [0x1B, 7]] }

/-- R174: the oldest held frame is due as the command that it spells, and is not there once it is taken. -/
theorem test_held_frame_is_taken :
    waiting.dueRows = [.status ⟨0x2A, 2⟩, .coolingTimerExpiry 7] ∧
    (waiting.taken (.status ⟨0x2A, 2⟩)).link.holding = [[0x1B, 7]] := by decide

theorem witness_ClockIsWrittenHeldAndCounted :
    ((inMode .configuring).ready ∧ (inMode .configuring).sup.mode = .configuring ∧ (hdr 8).len = 8) ∧
    ((inMode .serving).ready ∧ ((inMode .serving).sup.mode = .serving ∨ (inMode .serving).sup.mode = .maintenance) ∧
      (hdr 3).len = 3) ∧ (inMode .standdown).run = .running ∧
    (∀ ms, ms = 998 ∨ ms = 999 → (holdEnding ms).run = .running ∧ (holdEnding ms).pending = [] ∧
      ∀ c, ¬(holdEnding ms).RowDue c) ∧
    (holdEnding 999).clock.hold = 1 ∧ ¬(holdEnding 999).clock.ms < 999 ∧ (holdEnding 998).clock.ms < 999 ∧
    waiting.run = .running ∧ waiting.pending = [] ∧ waiting.RowDue (.coolingTimerExpiry 7) ∧
    waiting.RowDue (.status ⟨0x2A, 2⟩) := by
  refine ⟨by decide, by decide, rfl, fun ms h => ⟨rfl, rfl, fun c hc => ?_⟩, rfl, by decide, by decide, rfl, rfl,
    .inr rfl, .inl ⟨by decide, _, _, rfl, by decide⟩⟩
  have hd : (holdEnding ms).dueRows = [] := by rcases h with rfl | rfl <;> decide
  have hm := ((holdEnding ms).mem_dueRows c).mpr hc
  rw [hd] at hm
  exact absurd hm List.not_mem_nil

/-- One second before the end of the seconds count and at it. -/
theorem witness_PulsesAndLossFollowTheReference :
    ((clockAt 4294967294 999 2).run = .running ∧ (clockAt 4294967294 999 2).clock.locked = true ∧
      (clockAt 4294967294 999 2).clock.ms ≤ 999) ∧
    ((clockAt 4294967295 999 2).run = .running ∧ (clockAt 4294967295 999 2).clock.locked = true ∧
      (clockAt 4294967295 999 2).clock.ms ≤ 999 ∧ ¬(clockAt 4294967295 999 2).clock.seconds < 4294967295) ∧
    (State.reset.run = .running ∧ State.reset.clock.locked = false) ∧ (clockAt 0 0 0).clock.loss = some 100 := by decide
/-- R125: at the end of the seconds count a pulse that would advance it sets the milliseconds alone, with no second mark. -/
theorem test_pulse_at_the_last_second :
    let t := after .pulse (clockAt 4294967295 999 0)
    t.clock.seconds = 4294967295 ∧ t.clock.ms = 0 ∧ t.due = .idle := by decide

theorem witness_SecondsNeverGoBackward :
    let s := (inMode .serving).withPending [.msRollover]
    s.sup.mode ≠ .configuring ∧ ∃ t, step s = .next t ∧ t.sup.mode ≠ .configuring :=
  ⟨nofun, _, rfl, nofun⟩

theorem witness_RegionRulesMapBlocks :
    ((inMode .configuring).ready ∧
      ((inMode .configuring).sup.mode = .configuring ∨ (inMode .configuring).sup.mode = .maintenance) ∧
      (hdr 11).len = 11 ∧ (hdr 4).len = 4) ∧
    (regionMap.regions[1]? = some (some ⟨0, 0xF0000, 3⟩) ∧
      (∀ k < 20, (0xF0000#20).getLsbD k = true → Nat.testBit 40213 k = (0#20).getLsbD k) ∧
      regionMap.regions[0]? = some (some ⟨0x09C00, 0xFFF00, 12⟩) ∧
      ∃ k < 20, (0xFFF00#20).getLsbD k = true ∧ Nat.testBit 40213 k ≠ (0x09C00#20).getLsbD k) ∧
    ∀ r ∈ regionMap.regions, ∀ x ∈ r, ∃ k < 20, x.mask.getLsbD k = true ∧ Nat.testBit 700000 k ≠ x.pattern.getLsbD k := by
  decide

theorem witness_EventDefinesAnEntry :
    let s := holds .configuring 31 .planned
    s.ready ∧ s.due.inPass = false ∧ s.events.length = 32 ∧ s.sup.mode = .configuring ∧ (hdr 21).len = 21 ∧
    s.event? 30 = none ∧ (s.event? 31).map EventEntry.state = some .planned ∧
    ((holds .maintenance 31 .planned).event? 31).map EventEntry.state = some .planned ∧
    (31#8).toNat < 32 ∧ (3600#16).toNat ≤ 3600 ∧ (4294956495#32).toNat ≤ 4294956495 := by decide

theorem witness_EventTimesAndBlackoutChangeAnEntry :
    let s := holds .maintenance 31 .onSale
    let u := holds .serving 0 .closed
    s.ready ∧ s.due.inPass = false ∧ s.sup.mode = .maintenance ∧ (hdr 15).len = 15 ∧ (hdr 11).len = 11 ∧
    s.event? 31 = some (entry .onSale) ∧ s.event? 0 = none ∧ u.ready ∧ u.sup.mode = .serving ∧
    u.event? 0 = some (entry .closed) := by decide

theorem witness_ProductDefineMakesAnAliveProduct :
    let s := holds .maintenance 31 .onSale
    let u := holds .configuring 31 .void
    s.ready ∧ s.sup.mode = .maintenance ∧ (hdr 6).len = 5 + [31#8].length ∧ (hdr 7).len = 5 + [31#8, 30].length ∧
    (hdr 21).len = 5 + (List.replicate 16 31#8).length ∧ [31#8, 30].Nodup ∧
    s.event? 31 = some (entry .onSale) ∧ s.event? 30 = none ∧
    (s.products.getD 0 ⟨none, 0⟩).defn.isSome = true ∧ (s.products.getD 47 ⟨none, 0⟩).defn.isSome = false ∧
    u.ready ∧ u.sup.mode = .configuring ∧ u.event? 31 = some (entry .void) := by decide

theorem witness_ProductDropRemovesAnEmptyProduct :
    let s := holds .maintenance 31 .onSale
    let u := { selling (recordIn .prompt none) with sup := (inMode .maintenance).sup }
    s.ready ∧ s.sup.mode = .maintenance ∧ (hdr 4).len = 4 ∧ 48 ≤ (48#8).toNat ∧ s.product? 47 = none ∧
    (s.product? 0).isSome = true ∧ (s.products.getD 0 ⟨none, 0⟩).records = 0 ∧
    u.ready ∧ u.sup.mode = .maintenance ∧ (u.product? 0).isSome = true ∧ 0 < (u.products.getD 0 ⟨none, 0⟩).records := by
  decide

theorem witness_EventActionsTransitionTheEvent :
    let s := holds .serving 31 .suspended
    s.ready ∧ s.sup.mode = .serving ∧ (hdr 4).len = 4 ∧ s.due.inPass = false ∧ 32 ≤ (32#8).toNat ∧
    s.event? 30 = none ∧ s.event? 31 = some (entry .suspended) ∧
    actionCommand (hdr 4) 31 .resume = some (.eventActionResume (hdr 4) 31 5) ∧
    (entryAfter (entry .suspended) .resume 1000 250).isSome = true ∧
    entryAfter (entry .suspended) .openSale 1000 250 = none ∧ (0#8) ≠ 1 := by decide
/-- Bounds open, closed and none among the events of a product, and a report in and outside CONFIGURING: of a product that
admits the event, of one that does not, and of an undefined one. -/
theorem witness_EventActionsTransitionTheEvent_reports :
    let s := holds .serving 31 .live
    let u := holds .configuring 31 .void
    (holds .serving 31 .suspended).eventBound 31 = .openEnd ∧ s.eventBound 31 = .closedAt 8060 ∧
    u.eventBound 31 = .noBound ∧ s.sup.mode ≠ .configuring ∧ u.sup.mode = .configuring ∧
    s.product? 0 = some ⟨.single, [31], .closedAt 8060, .alive⟩ ∧ 31 ∈ [31] ∧ 30 ∉ [31] ∧ s.product? 47 = none ∧
    (∀ j ∈ [31], ∃ e ∈ u.event? j, e.state = .void) := by decide

theorem witness_ClosedAndVoidAreFinal :
    let s := holds .serving 31 .closed
    let c := Instr.eventActionVoid (hdr 4) 31 7
    s.link.resetDue = none ∧ s.event? 31 = some (entry .closed) ∧ (entry .closed).state = .closed ∧
    (c ≠ .resetTablesActs ∧ c ≠ .resetFullActs ∧ c ≠ .configuringWindowExpiry ∧ (∀ p q, c ≠ .powerOn p q) ∧
      ∀ p q, c ≠ .resetLine p q) ∧ ∃ t, exec c s = .next t :=
  ⟨rfl, rfl, rfl, ⟨nofun, nofun, nofun, nofun, nofun⟩, _, rfl⟩

theorem witness_CueCommandsSetTheContext :
    let s := lineIs .serving 7 .lockedOut .kickoff
    let u := s.withSup { s.sup with policy := .cueStanddown }
    s.ready ∧ settingModes s.sup.mode ∧ (hdr 8).len = 8 ∧ (hdr 4).len = 4 ∧ s.due.inPass = false ∧
    (7#8).toNat < 8 ∧ cueActionOf 4 = some .hold ∧ cueActionOf 0 = none ∧ (500#16).toNat ≤ 500 ∧ 10 ≤ (10#16).toNat ∧
    u.ready ∧ settingModes u.sup.mode ∧ u.sup.policy = .cueStanddown :=
  ⟨by decide, .inr (.inl rfl), rfl, rfl, rfl, by decide, rfl, rfl, by decide, by decide, by decide, .inr (.inl rfl), rfl⟩

/-- A changed flag of an ON_SALE event, and an unchanged one; a binding of another action; an event that no flag bears on. -/
theorem witness_CueCommandsSetTheContext_flags :
    let s := (holds .serving 5 .onSale).setLine 7 ⟨.armed true none [], some ⟨5, .kickoff, false, 50⟩, 0, none⟩
    let bound (u : State) := ∃ x ∈ u.cues.lines, ∃ b ∈ x.binding, b.event = 5 ∧ b.action = .kickoff
    s.event? 5 = some (entry .onSale) ∧ (entry .onSale).state = .onSale ∧ (entry .onSale).cueBound = false ∧ bound s ∧
    ¬bound (holds .serving 5 .onSale) ∧ ¬bound (lineIs .serving 7 .lockedOut .hold) ∧ some 5 ∈ [none, some 5] ∧
    some 4 ∉ [none, some 5] ∧ s.event? 4 = none ∧ s.marks.length = 1 := by decide
/-- R5, R138: binding a line with action KICKOFF moves the KICKOFF mark of an ON_SALE event to K + 600. -/
theorem test_kickoff_mark_moves :
    let t := after (.cueBind (hdr 8) 7 5 1 0 50) (holds .serving 5 .onSale)
    t.marks = [⟨5, .kickoff, 2600⟩] ∧ (t.event? 5).map EventEntry.cueBound = some true := by decide

theorem witness_PinChangesRunTheDebounceTimer :
    let s := lineIs .serving 7 (.armed false none []) .hold
    s.run = .running ∧ 7 < 8 ∧ s.reserved 7 = false ∧ s.reserved 0 = false ∧ s.cues.lines.length = 8 ∧
    s.cues.pins.getLsbD 7 ≠ true := by decide

theorem witness_DebounceExpiryAcceptsAnEdge :
    let s := lineIs .serving 0 (.armed true (some 3) [1, 2, 3, 4]) .hold
    let u := lineIs .configuring 7 (.armed true (some 0) []) .kickoff
    (s.run = .running ∧ [1, 2, 3, 4].length ≤ 4 ∧ s.cues.lines.length = 8 ∧
      (s.cues.line 0).state = .armed true (some 3) [1, 2, 3, 4] ∧
      (s.cues.line 0).binding = some ⟨5, .hold, false, 50⟩ ∧ 2001 ≤ [1, 2, 3, 4].headD 0 + 2000 ∧
      ¬2002 ≤ [1, 2, 3, 4].headD 0 + 2000 ∧ s.sup.mode ≠ .configuring ∧ s.due.inPass = false) ∧
    (u.cues.line 7).state = .armed true (some 0) [] ∧ (u.cues.line 7).binding = some ⟨5, .kickoff, false, 50⟩ ∧
    u.cues.lines.length = 8 ∧ u.run = .running ∧ u.sup.mode = .configuring := by decide

/-- R11: a FINISH cue that finds its event SUSPENDED is dropped with CUE_IGNORED; one that finds it LIVE ends it. -/
theorem test_finish_cue :
    let at_ (st : EvState) := after (.debounceExpiry 7 9000)
      ((holds .holdover 5 st).setLine 7 ⟨.armed true (some 0) [], some ⟨5, .finish, false, 50⟩, 0, none⟩)
    ((at_ .suspended).event? 5).map EventEntry.state = some .suspended ∧
    (at_ .suspended).notices.queue = [⟨.cueIgnored, 4, 1000, 250, .line 7, .requested .finish⟩] ∧
    ((at_ .live).event? 5).map (fun e => (e.state, e.finish)) = some (.ended, some 1000) := by decide

theorem witness_CoolingAndSettlingEndOnThePinLevel :
    let s := lineIs .holdover 7 (.cooling 0) .hold
    let u := (inMode .holdover).withSup { (inMode .holdover).sup with policy := .cueStanddown }
    let v := u.withCues { u.cues with pins := 1, settling := some 0 }
    let w := lineIs .configuring 0 (.cooling 9999) .hold
    (s.run = .running ∧ s.due.inPass = false ∧ s.sup.mode ≠ .configuring ∧ (s.cues.line 7).state = .cooling 0 ∧
      (s.cues.line 7).binding = some ⟨5, .hold, false, 50⟩) ∧
    (w.run = .running ∧ w.due.inPass = false ∧ w.sup.mode = .configuring ∧ (w.cues.line 0).state = .cooling 9999 ∧
      (w.cues.line 0).binding = some ⟨5, .hold, false, 50⟩) ∧
    (u.run = .running ∧ u.sup.policy = .cueStanddown ∧ u.cues.pins.getLsbD 0 ≠ true) ∧
    v.run = .running ∧ v.cues.settling = some 0 := by decide

/-- In the order of the clauses: an unset clock, a part 0, a part out of turn, wrong values out of and in service, and a
correct first part of two. -/
theorem witness_KeepalivePartsAreChecked :
    State.reset.ready ∧ (hdr 4).len = 4 ∧ State.reset.sup.mode = .configuring ∧ State.reset.clock.isSet = false ∧
    (let s := keeping 0 0 0
     s.ready ∧ s.settings.inForce.partsCount = 2 ∧ s.sup.mode = .serving ∧ ¬(2 : Nat) ^ (8 / 2) ≤ (15#8).toNat ∧
     2 ^ (8 / 2) ≤ (16#8).toNat ∧ (2#8).toNat ≠ s.sup.collection + 1 ∧ (1#8).toNat = s.sup.collection + 1 ∧
     (10#8).toNat = (255 - s.sup.challenge) / 2 ^ (8 - 8 / 2 * 1) % 2 ^ (8 / 2) ∧ (1#8).toNat < 2 ∧
     s.sup.faults + 1 < s.settings.current.faultLimit) ∧
    ((keeping 0 1 0).ready ∧ (keeping 0 1 0).sup.mode = .serving ∧
      (keeping 0 1 0).settings.current.faultLimit ≤ (keeping 0 1 0).sup.faults + 1) ∧
    (let s := inMode .holdover
     s.ready ∧ s.clock.isSet = true ∧ (1#8).toNat = s.sup.collection + 1 ∧
     (253#8).toNat ≠ (255 - s.sup.challenge) / 2 ^ (8 - 8 / 1 * 1) % 2 ^ (8 / 1)) := by decide

/-- The lookup of an event in a table that holds one event. -/
theorem event?_of_one (n i : Nat) (h : n < 32) (e : EventEntry) (s : State)
    (hs : s.events = emptyEvents.set n (some e)) : s.event? i = if i = n then some e else none := by
  simp only [State.event?, hs, List.getD, List.getElem?_set, emptyEvents, List.length_replicate,
    List.getElem?_replicate, h, if_true]
  by_cases hi : n = i
  · simp [hi]
  · rw [if_neg hi, if_neg (fun hn : i = n => hi hn.symm)]
    by_cases h32 : i < 32 <;> simp [h32]

/-- One event with its mark meets the condition on the Mark List. -/
theorem marksOk_of_one (n : Nat) (h : n < 32) (e : EventEntry) (s : State)
    (hs : s.events = emptyEvents.set n (some e)) (hm : s.marks = (e.markFor n 600).toList) (he : e.FieldsOk) :
    s.MarksOk := by
  have hev := fun i => event?_of_one n i h e s hs
  refine ⟨?_, ?_, ?_, ?_, ?_⟩
  · rw [hm]; cases e.markFor n 600 <;> simp
  · rw [hm]; cases e.markFor n 600 <;> simp
  · intro m hmem
    rw [hm] at hmem
    refine ⟨e, ?_⟩
    rw [hev]
    revert hmem
    unfold EventEntry.markFor
    cases e.state <;> simp <;> rintro rfl <;> simp [EvState.markKind]
  · intro i x k hx hk
    rw [hev] at hx
    split at hx
    · next hi =>
      rw [Option.some.injEq] at hx
      subst hx
      rw [hm, hi]
      revert hk
      unfold EventEntry.markFor
      cases e.state <;> simp [EvState.markKind]
    · cases hx
  · intro i x hx
    rw [hev] at hx
    split at hx
    · cases hx; exact he
    · cases hx

/-- The entries of the witness states have the fields that their states need. -/
theorem entry_fieldsOk (st : EvState) : (entry st).FieldsOk := by
  refine ⟨fun _ => rfl, fun _ => rfl, ?_, ?_⟩
  · cases st <;> simp [entry]
  · intro p hp
    cases st <;> simp [entry] at hp
    subst hp
    exact .inl rfl

theorem holds_marksOk (m : Mode) (n : Nat) (h : n < 32) (st : EvState) : (holds m n st).MarksOk :=
  marksOk_of_one n h (entry st) _ rfl rfl (entry_fieldsOk st)

theorem witness_FinalPartInConfiguringMakesGo :
    let s := holds .configuring 31 .planned
    s.ready ∧ (hdr 4).len = 4 ∧ s.sup.mode = .configuring ∧ s.clock.isSet = true ∧ 1 ≤ s.sup.challenge ∧
    s.sup.challenge ≤ 254 ∧ IsFinalPart s 1 254 ∧ s.events.length = 32 ∧ s.MarksOk :=
  ⟨by decide, rfl, rfl, rfl, by decide, by decide, ⟨.inl rfl, rfl, rfl, rfl⟩, rfl, holds_marksOk _ _ (by decide) _⟩

theorem witness_FinalPartInServiceIsJudged :
    (let s := keeping 1 0 700
     s.ready ∧ s.sup.mode = .serving ∧ s.sup.period = some ⟨2000, 700⟩ ∧ 1 ≤ s.sup.challenge ∧ s.sup.challenge ≤ 254 ∧
     IsFinalPart s 2 3 ∧ s.sup.windowOn = true ∧ 2 * 700 < 2000 ∧ s.sup.faults + 1 < s.settings.current.faultLimit) ∧
    (let s := keeping 1 1 700
     s.ready ∧ s.sup.mode = .serving ∧ s.sup.period = some ⟨2000, 700⟩ ∧ IsFinalPart s 2 3 ∧ s.sup.windowOn = true ∧
     s.settings.current.faultLimit ≤ s.sup.faults + 1) ∧
    (let s := keeping 1 0 1000
     s.ready ∧ s.sup.mode = .serving ∧ s.sup.period = some ⟨2000, 1000⟩ ∧ IsFinalPart s 2 3 ∧ ¬2 * 1000 < 2000) ∧
    (hdr 4).len = 4 :=
  ⟨⟨by decide, rfl, rfl, by decide, by decide, ⟨.inr (.inl rfl), rfl, rfl, rfl⟩, rfl, by decide, by decide⟩,
    ⟨by decide, rfl, rfl, ⟨.inr (.inl rfl), rfl, rfl, rfl⟩, rfl, by decide⟩,
    ⟨by decide, rfl, rfl, ⟨.inr (.inl rfl), rfl, rfl, rfl⟩, by decide⟩, rfl⟩

theorem witness_FinalPartResumesService :
    let s := inMode .standdown
    s.ready ∧ (hdr 4).len = 4 ∧ s.sup.mode = .standdown ∧ 1 ≤ s.sup.challenge ∧ s.sup.challenge ≤ 254 ∧
    IsFinalPart s 1 254 ∧ (inMode .holdover).ready ∧ (inMode .holdover).sup.mode = .holdover :=
  ⟨by decide, rfl, rfl, by decide, by decide, ⟨.inl rfl, rfl, rfl, rfl⟩, by decide, rfl⟩

theorem witness_MaintenanceChangesTheMode :
    (inMode .serving).ready ∧ (hdr 3).len = 3 ∧ (inMode .serving).sup.mode = .serving ∧ (inMode .maintenance).ready ∧
    (inMode .maintenance).sup.mode = .maintenance ∧ (inMode .standdown).ready ∧
    (inMode .standdown).sup.mode ≠ .serving ∧ (inMode .standdown).sup.mode ≠ .maintenance ∧ (2#8) ≠ 1 := by decide

theorem witness_MissedPeriodsLeadToHoldover :
    let s := inMode .maintenance
    let u := (inMode .serving).withSup { (inMode .serving).sup with faults := 1 }
    s.run = .running ∧ s.sup.mode = .maintenance ∧ s.sup.period = some ⟨2000, 1500⟩ ∧
    s.sup.faults + 1 < s.settings.current.faultLimit ∧ u.run = .running ∧ u.sup.mode = .serving ∧
    u.sup.period = some ⟨2000, 1500⟩ ∧ u.settings.current.faultLimit ≤ u.sup.faults + 1 := by decide

theorem witness_QuietExpiryEntersStanddown :
    let s := (inMode .holdover).withSup { (inMode .holdover).sup with policy := .quietStanddown, quiet := some 0 }
    s.run = .running ∧ s.sup.quiet = some 0 := by decide

theorem witness_TableResetsKeepLinkRateAndClock :
    (inMode .standdown).ready ∧ (hdr 3).len = 3 ∧ (3#8) ≠ 1 ∧ (inMode .configuring).run = .running ∧
    (inMode .configuring).sup.configTimer.isSome = true ∧ 1 ≤ (inMode .configuring).sup.challenge ∧
    (inMode .configuring).sup.challenge ≤ 254 := by decide

theorem witness_StartsLoadTheStoredSettings :
    ({ saving with run := .heldInReset } : State).run ≠ .unpowered ∧ saving.run = .running ∧
    saving.settings.writing.isSome = true ∧ ({ saving with run := .heldInReset } : State).run ≠ .running ∧
    ({ saving with run := .heldInReset } : State).pending = [] ∧ ({ saving with run := .unpowered } : State).run = .unpowered ∧
    (∀ p q, Instr.slotGrant 5 ≠ .powerOn p q) ∧ (∀ p q, Instr.slotGrant 5 ≠ .resetLine p q) ∧
    Instr.slotGrant 5 ≠ .resetLineAsserted ∧ Instr.slotGrant 5 ≠ .powerLoss ∧
    ∀ n level, Instr.slotGrant 5 ≠ .cuePinChange n level :=
  ⟨nofun, rfl, rfl, nofun, rfl, rfl, nofun, nofun, nofun, nofun, nofun⟩

/-- R96, R130: a part with RESET_N low takes no grant and no pulse. -/
theorem test_held_part_ignores :
    let s : State := { holdEnding 0 with run := .heldInReset }
    after (.slotGrant 5) s = s ∧ after .pulse s = s ∧ after (.byteReceived 0xA5) s = s := by decide

theorem witness_PurchaseSetsTheSlotBit :
    let s := selling (recordIn (.ring 1052) (some ⟨1060, false⟩))
    s.ready ∧ s.sup.mode = .serving ∧ (hdr 7).len = 7 ∧ (0x3FFFFFF#32).toNat < 2 ^ 26 ∧ (0#8).toNat < 48 ∧
    s.product? 0 = some ⟨.single, [0], .closedAt 8060, .alive⟩ ∧
    (∃ e ∈ (([0].filterMap s.event?).filter fun e => e.sellable s.clock.seconds),
      e.blackout.getLsbD (s.regionOf 40213) = false) := by decide

/-- Product 47 is undefined; events CLOSED, PLANNED, and ON_SALE with every region blacked out. -/
theorem witness_PurchaseRefusalsChangeNothing :
    ((holds .serving 0 .closed).ready ∧ (holds .serving 0 .closed).sup.mode = .serving ∧ (hdr 7).len = 7 ∧
      (holds .serving 0 .closed).product? 47 = none ∧
      (holds .serving 0 .closed).product? 0 = some ⟨.single, [0], .noBound, .alive⟩ ∧
      (holds .serving 0 .closed).event? 0 = some (entry .closed)) ∧
    ((holds .serving 0 .planned).product? 0 = some ⟨.single, [0], .closedAt 8060, .alive⟩ ∧
      (holds .serving 0 .planned).event? 0 = some (entry .planned)) ∧
    (let s := { holds .serving 0 .onSale with
        events := emptyEvents.set 0 (some { entry .onSale with blackout := BitVec.allOnes 64 }) }
     s.ready ∧ s.product? 0 = some ⟨.single, [0], .closedAt 8060, .alive⟩ ∧
     s.event? 0 = some { entry .onSale with blackout := BitVec.allOnes 64 } ∧
     (BitVec.allOnes 64).getLsbD (s.regionOf 40213) = true) ∧ ¬(0x4000000#32).toNat < 2 ^ 26 := by decide

theorem witness_CancelClearsTheSlotBit :
    let s := selling (recordIn .prompt none)
    s.ready ∧ s.sup.mode = .serving ∧ (hdr 7).len = 7 ∧ (0x274551#32).toNat < 2 ^ 26 ∧ (0#8).toNat < 48 ∧
    s.product? 47 = none ∧ (s.product? 0).isSome = true ∧ s.store.find ⟨40213, 0⟩ = some (recordIn .prompt none) ∧
    (recordIn .prompt none).map.getLsbD 17 = true ∧ s.store.find ⟨40212, 0⟩ = none := by decide

theorem witness_BatchesOpenTakeFramesAndClose :
    let s := (inMode .serving).withLink { (inMode .serving).link with batch := some batch }
    s.ready ∧ s.sup.mode = .serving ∧ (hdr 5).len = 5 ∧ (hdr 2).len = 2 ∧ s.link.batch = some batch ∧
    1 ≤ [BatchEntry.mk 1 1].length ∧ (hdr 7).len = 2 + 5 * [BatchEntry.mk 1 1].length ∧
    (hdr 102).len = 2 + 5 * (List.replicate 20 (BatchEntry.mk 1 1)).length := by decide

theorem witness_BatchItemsAreTestedAndCounted :
    let v : Service := ⟨0x14, 0x31, .items [⟨0x274551, 0⟩, ⟨1, 47⟩]⟩
    let s := (inMode .serving).withLink { (inMode .serving).link with batch := some batch, service := some v }
    s.run = .running ∧ s.link.service = some ⟨0x14, 0x31, .items (⟨0x274551, 0⟩ :: [⟨1, 47⟩])⟩ ∧
    s.link.batch = some batch ∧ s.link.unsolicited = none := by decide

theorem witness_QueriesReportAndChangeNothing :
    (inMode .standdown).ready ∧ (hdr 3).len = 3 ∧ (hdr 2).len = 2 ∧ (hdr 7).len = 7 ∧ (hdr 6).len = 6 := by decide

theorem witness_NoticesAreCollectedAndRepliesEndService :
    let o : Outgoing := ⟨⟨0x9B, 0x2A, .done, .none⟩, true⟩
    let s := (inMode .standdown).withLink
      { (inMode .standdown).link with
        service := some ⟨0x1B, 0x2A, .replying⟩, tx := [o], unsolicited := some (summaryReply .cut 0x30 batch) }
    (inMode .standdown).ready ∧ (hdr 2).len = 2 ∧ s.run = .running ∧ s.link.tx = o :: [] := by decide

/-- A level of 7 and one below it; a queue with room, and full ones whose least urgent level is the notice's own or 6. -/
theorem witness_NoticesAreCollectedAndRepliesEndService_queue :
    let n (level : Nat) : Notice := ⟨.lapse, level, 0, 0, .none, .quantity 0⟩
    let older := List.replicate 40 (n 6)
    let newer := List.replicate 23 (n 0)
    let q : NoticeQueue := ⟨older ++ n 6 :: newer, false, false⟩
    let levels := (Settings.defaults.levels.set 0 7).set 1 6
    levels.getD (NoticeKind.configTimeout.code - 1) 7 = 7 ∧ levels.getD (NoticeKind.settingsDefaulted.code - 1) 7 = 6 ∧
    levels.getD (NoticeKind.lapse.code - 1) 7 < 6 ∧ 64 ≤ q.queue.length ∧ (∀ x ∈ q.queue, x.level ≤ 6) ∧
    (∀ y ∈ older, y.level ≤ 6) ∧ (∀ y ∈ newer, y.level < 6) ∧ older.length < 64 := by decide

theorem witness_UnservedCommandsAreRefused :
    (linkFrame (.purchase (hdr 6) 0 0)).isSome = true ∧ (∀ h k, Instr.purchase (hdr 6) 0 0 ≠ .unknownKind h k) ∧
    (∀ h items, Instr.purchase (hdr 6) 0 0 ≠ .batchData h items) ∧ (inMode .holdover).ready ∧
    servedIn (inMode .holdover).sup.mode (.purchase (hdr 6) 0 0) = false ∧
    (kindOf (.purchase (hdr 6) 0 0)).toNat ∉ [0x0E, 0x02, 0x16, 0x17, 0x18, 0x19, 0x1A, 0x1B, 0x1C] ∧
    (inMode .serving).ready ∧ servedIn (inMode .serving).sup.mode (.purchase (hdr 6) 0 0) = true ∧
    lengthOk (.purchase (hdr 6) 0 0) = false :=
  ⟨rfl, nofun, nofun, by decide, rfl, by decide, by decide, rfl, rfl⟩

/-- BATCH DATA of one item too many bytes, in SERVING and in HOLDOVER; 7 and 102 are permitted, 8 and 103 are not. -/
theorem witness_UnservedCommandsAreRefused_batchData :
    (inMode .holdover).ready ∧ (inMode .holdover).sup.mode ≠ .serving ∧ (inMode .holdover).sup.mode ≠ .maintenance ∧
    (inMode .serving).ready ∧ ¬(7 ≤ (hdr 8).len ∧ (hdr 8).len ≤ 102 ∧ ((hdr 8).len - 2) % 5 = 0) ∧
    ¬(7 ≤ (hdr 107).len ∧ (hdr 107).len ≤ 102 ∧ ((hdr 107).len - 2) % 5 = 0) ∧ (7 - 2) % 5 = 0 ∧ (102 - 2) % 5 = 0 := by
  decide
/-- R69: BATCH DATA refused in HOLDOVER restarts the idle timer of an open batch. -/
theorem test_refused_batch_data_restarts_the_idle_timer :
    let s := (inMode .holdover).withLink { (inMode .holdover).link with batch := some batch }
    let t := after (.batchData (hdr 7) [⟨1, 1⟩]) s
    said t = some .wrongMode ∧ t.link.batch = some { batch with idle := 2000 } := by decide

theorem witness_CommandsCutAnOpenBatch :
    let s := (inMode .serving).withLink { (inMode .serving).link with batch := some batch }
    (linkFrame (.unknownKind (hdr 2) 0x80)).isSome = true ∧ s.ready ∧ s.link.batch = some batch ∧
    (kindOf (.unknownKind (hdr 2) 0x80)).toNat ∉ [0x14, 0x15, 0x0E, 0x16, 0x1B, 0x1C] := by decide

theorem witness_ReceiverAssemblesFrames :
    State.reset.run = .running ∧ State.reset.link.framing = .hunt false ∧
    (inFrame [0xA5]).link.framing = .inFrame [0xA5] ∧ 2 ≤ (2#8).toNat ∧ (250#8).toNat ≤ 250 ∧
    (inFrame [0xA5, 2]).link.framing = .inFrame (0xA5 :: 2 :: []) ∧ ([] : List Byte).length + 1 < (2#8).toNat + 2 ∧
    (let crc := crc16 [2, 0x16, 0x11]
     let hi : Byte := (crc >>> 8).setWidth 8
     (inFrame [0xA5, 2, 0x16, 0x11, hi]).link.framing = .inFrame (0xA5 :: 2 :: ([0x16, 0x11] ++ [hi])) ∧
     [0x16, 0x11].length = (2#8).toNat ∧ crc16 (2 :: [0x16, 0x11]) = hi ++ (crc.setWidth 8 : Byte) ∧
     (inFrame [0xA5, 2, 0x16, 0x11, hi]).link.holding.length < 4) ∧
    ((inFrame []).withLink { (inFrame []).link with framing := .hunt true }).link.framing = .hunt true := by
  decide +kernel

theorem witness_FrameErrorsAreCounted :
    (inFrame [0xA5]).run = .running ∧ (inFrame [0xA5]).link.framing = .inFrame [0xA5] ∧
    ¬(2 ≤ (1#8).toNat ∧ (1#8).toNat ≤ 250) ∧ ¬(2 ≤ (251#8).toNat ∧ (251#8).toNat ≤ 250) ∧
    (inFrame [0xA5, 2, 0x16, 0x11, 0]).link.framing = .inFrame (0xA5 :: 2 :: ([0x16, 0x11] ++ [0])) ∧
    crc16 (2 :: [0x16, 0x11]) ≠ (0#8 ++ 0#8) ∧
    (inFrame [0xA5]).link.errors < (inFrame [0xA5]).settings.current.linkThreshold ∧
    (let s := (inFrame [0xA5]).withLink { (inFrame [0xA5]).link with errors := 31 }
     s.settings.current.linkThreshold ≤ s.link.errors ∧ s.sup.mode = .serving) ∧
    (let s := (inMode .standdown).withLink
       { (inFrame [0xA5]).link with errors := 31, holding := List.replicate 4 [0x16, 0x11] }
     s.settings.current.linkThreshold ≤ s.link.errors ∧ s.sup.mode ≠ .serving ∧ s.sup.mode ≠ .maintenance ∧
     4 ≤ s.link.holding.length ∧ s.link.framing = .inFrame [0xA5]) := by decide +kernel
/-- R159, R171, R172: a good frame that finds the holding full is an error, which restarts a quiet timer that runs. -/
theorem test_frame_that_finds_the_holding_full :
    let crc := crc16 [2, 0x16, 0x11]
    let s := (inMode .holdover).withLink
      { (inFrame [0xA5, 2, 0x16, 0x11, (crc >>> 8).setWidth 8]).link with holding := List.replicate 4 [0x16, 0x11] }
    let t := after (.frameCompletes (crc.setWidth 8))
      (s.withSup { s.sup with policy := .quietStanddown, quiet := some 5 })
    t.link.holding.length = 4 ∧ t.link.errors = 1 ∧ t.sup.quiet = some 480000 := by decide +kernel

/-- The part with one event's mark due and a second mark to take. -/
def firing (m : Mode) (st : EvState) (now : Nat) (inPass : Bool) : State :=
  { holds m 31 st with due := ⟨[now], inPass, 1, 1⟩ }

theorem witness_MarksFireInOrder :
    (let s := firing .serving .onSale 2000 false
     s.run = .running ∧ s.due.passes = 2000 :: [] ∧ s.MarksOk ∧ s.sup.mode ≠ .configuring ∧
     s.marks = ⟨31, .kickoff, 2000⟩ :: [] ∧ (⟨31, .kickoff, 2000⟩ : Mark).time ≤ 2000) ∧
    (let s := firing .standdown .onSale 1999 false
     s.due.passes = 1999 :: [] ∧ s.MarksOk ∧ ∀ m ∈ s.marks, 1999 < m.time) ∧
    (firing .configuring .planned 2000 false).sup.mode = .configuring ∧
    (firing .configuring .planned 2000 false).MarksOk :=
  ⟨⟨rfl, rfl, holds_marksOk .serving 31 (by decide) .onSale, nofun, rfl, by decide⟩,
    ⟨rfl, holds_marksOk .standdown 31 (by decide) .onSale, by decide⟩, rfl,
    holds_marksOk .configuring 31 (by decide) .planned⟩

theorem witness_PassInProgressIsCompletedFirst :
    let s := firing .maintenance .onSale 2000 true
    s.ready ∧ servedIn s.sup.mode (.eventTimes (hdr 15) 31 0 0 1) = true ∧
    lengthOk (.eventTimes (hdr 15) 31 0 0 1) = true ∧ (31#8).toNat < 32 ∧ timesOk 0 0 1 = true ∧
    windowsOk 3600 3600 60 = true ∧ s.events.length = 32 ∧ s.MarksOk ∧ s.due.passes = 2000 :: [] ∧
    s.due.inPass = true :=
  ⟨by decide, rfl, rfl, by decide, rfl, rfl, rfl, holds_marksOk .maintenance 31 (by decide) .onSale, rfl, rfl⟩

/-- The same for the cue rows and commands: a line 7 ARMED or COOLING, its event 31 in a pass in progress. -/
theorem witness_PassInProgressIsCompletedFirst_cues :
    let s (st : LineState) := (firing .maintenance .onSale 2000 true).setLine 7 ⟨st, some ⟨31, .hold, false, 50⟩, 0, none⟩
    (∀ st : LineState, (s st).ready ∧ settingModes (s st).sup.mode ∧ (s st).due.inPass = true ∧
      ¬((s st).sup.policy = .cueStanddown ∧ (7#8).toNat = 0) ∧ (s st).sup.mode ≠ .configuring ∧
      ((s st).cues.line 7).state = st ∧ ((s st).cues.line 7).binding = some ⟨31, .hold, false, 50⟩ ∧
      (s st).cues.pins.getLsbD 7 = false) ∧
    ¬([1, 2, 3, 4].length = 4 ∧ 2002 ≤ [1, 2, 3, 4].headD 0 + 2000) ∧ (cueActionOf 4).isSome = true ∧
    (hdr 8).len = 8 ∧ (hdr 4).len = 4 ∧ (500#16).toNat ≤ 500 ∧ 10 ≤ (10#16).toNat ∧ (31#8).toNat < 32 ∧ (1#8).toNat ≤ 1 :=
  ⟨fun _ => ⟨⟨rfl, rfl⟩, .inr (.inr rfl), rfl, nofun, nofun, rfl, rfl,
    (by decide : (0#8).getLsbD 7 = false)⟩, by decide, by decide, rfl, rfl, by decide,
    by decide, by decide, by decide⟩

/-- R134, log 13: the pass fires the KICKOFF of event 31 before the HOLD cue suspends it, at the two times of request. -/
theorem test_cue_comes_after_the_pass :
    let s := (firing .maintenance .onSale 2000 true).setLine 7 ⟨.cooling 0, some ⟨31, .hold, false, 50⟩, 0, none⟩
    ((after (.coolingTimerExpiry 7) s).event? 31).map (fun e => (e.state, e.actualKickoff, e.suspension)) =
      some (.suspended, some 2000, some ⟨1000, 250, .live⟩) := by decide

theorem witness_WindowFollowsTheTarget :
    (firing .serving .onSale 2000 false).run = .running ∧ 0 < (firing .serving .onSale 2000 false).due.window := by decide

theorem witness_AnnouncementsAndRateFollowTheirTicks :
    let s := firing .serving .onSale 2000 false
    let p := State.reset.pacing
    s.run = .running ∧ 0 < s.due.announce ∧ s.pacing.a16 ≤ 80000 ∧ s.pacing.seeded = false ∧
    (let u := s.withPacing { p with seeded := true, a16 := 80000, slotCount := 5000 }
     u.pacing.seeded = true ∧ u.pacing.a16 ≤ 80000 ∧ u.pacing.a16 ≤ 16 * u.pacing.slotCount) ∧
    (let u := s.withPacing { p with seeded := true, a16 := 1, slotCount := 0 }
     u.pacing.seeded = true ∧ u.pacing.a16 ≤ 80000 ∧ 16 * u.pacing.slotCount < u.pacing.a16) := by decide

/-- In the order of the ranks: a due ring head, a revocation head, TIME, an announcement, a prompt head, a ring head that
is not due, and nothing. -/
theorem witness_SourceFollowsTheRanks :
    (inMode .configuring).source = .filler ∧
    (selling (recordIn (.ring 1000) none)).source = .record (recordIn (.ring 1000) none) ∧
    (selling (recordIn (.revoking 2) none)).source = .record (recordIn (.revoking 2) none) ∧
    (let s := selling (recordIn .prompt none)
     (s.withArbiter { s.arbiter with timePending := true, announcements := [0] }).source = .time ∧
     (s.withArbiter { s.arbiter with announcements := [0] }).source = .announce 0 (entry .onSale) ∧
     s.source = .record (recordIn .prompt none)) ∧
    (selling (recordIn (.ring 1001) none)).source = .record (recordIn (.ring 1001) none) ∧
    (inMode .holdover).source = .filler := by decide

theorem witness_GrantsWithoutARecord :
    let s := holds .serving 0 .closed
    let u := s.withPort { s.port with lastGrant := some 1000 }
    s.run = .running ∧ s.source = .filler ∧ (s.withArbiter { s.arbiter with timePending := true }).source = .time ∧
    (s.withArbiter { s.arbiter with announcements := [0] }).source = .announce 0 (entry .closed) ∧
    s.port.lastGrant = none ∧ u.port.lastGrant = some 1000 ∧ ¬1000 + 200 ≤ 1199 ∧ 1000 + 200 ≤ 1200 := by
  decide

/-- The keys of the lists of a store with one record. -/
theorem listHolds_of_one (r : GrantRecord) (n : ListName) :
    ListHolds (storeOf r) (if r.place.listName = n then [r.key] else []) (fun p => p.listName == n) := by
  refine ⟨by split <;> simp, fun k => ?_⟩
  have : k = r.key ↔ r.key = k := ⟨Eq.symm, Eq.symm⟩
  by_cases h : r.place.listName = n <;> simp [storeOf, h, this]

/-- A store with one record of product 0, whose map is empty in the revocation queue alone, is well formed. -/
theorem selling_one_storeOk (r : GrantRecord) (hk : r.key.product = 0) (hm : r.map = 0 → r.place.listName = .revoking) :
    (selling r).StoreOk := by
  refine ⟨⟨List.pairwise_singleton _ _, show 1 ≤ 65536 by decide, listHolds_of_one _ .prompt, listHolds_of_one _ .ring,
    listHolds_of_one _ .revoking, ?_, ?_⟩, rfl, ?_, ?_⟩
  · show ((if _ then _ else _ : List Key).Pairwise _)
    split
    · exact List.pairwise_singleton _ _
    · exact .nil
  · intro x hx h
    cases List.mem_singleton.mp hx
    exact hm h
  · intro x hx
    cases List.mem_singleton.mp hx
    omega
  · have count : ∀ p < 48,
        ((emptyProducts.set 0 ⟨some ⟨.single, [0], .closedAt 8060, .alive⟩, 1⟩).getD p ⟨none, 0⟩).records =
          bif 0 == p then 1 else 0 := by decide
    intro p hp
    rw [show (selling r).store.records = [r] from rfl, List.countP_singleton, hk, ← Bool.cond_eq_ite]
    exact count p hp

theorem selling_storeOk (place : Place) (stamp : Option Stamp) : (selling (recordIn place stamp)).StoreOk :=
  selling_one_storeOk _ rfl fun h => absurd (show (0x20000#64) = 0 from h) (by decide)

/-- From the prompt queue, from the revocation queue with a copy left, with the last one, and with the last one of an empty
map. -/
theorem witness_EmissionStampsAndPlaces :
    let s (p : Place) := selling (recordIn p (some ⟨1000, false⟩))
    let ready (p : Place) := (s p).run = .running ∧ (s p).port.lastGrant = none ∧ (s p).StoreOk ∧
      (s p).source = .record (recordIn p (some ⟨1000, false⟩)) ∧
      (s p).store.find ⟨40213, 0⟩ = some (recordIn p (some ⟨1000, false⟩))
    let r := { recordIn (.revoking 1) none with map := 0 }
    ready .prompt ∧ ready (.revoking 2) ∧ ready (.revoking 1) ∧ ready (.ring 1000) ∧
    ((selling r).run = .running ∧ (selling r).port.lastGrant = none ∧ (selling r).StoreOk ∧
      (selling r).source = .record r ∧ (selling r).store.find r.key = some r) := by
  refine ⟨?_, ?_, ?_, ?_, ?_⟩
  · exact ⟨rfl, rfl, selling_storeOk _ _, by decide, by decide⟩
  · exact ⟨rfl, rfl, selling_storeOk _ _, by decide, by decide⟩
  · exact ⟨rfl, rfl, selling_storeOk _ _, by decide, by decide⟩
  · exact ⟨rfl, rfl, selling_storeOk _ _, by decide, by decide⟩
  · exact ⟨rfl, rfl, selling_one_storeOk _ rfl (fun _ => rfl), by decide, by decide⟩
/-- R34: the last copy of a record with an empty map frees it. -/
theorem test_last_copy_frees_an_empty_record :
    let t := after (.slotGrant 1000) (selling { recordIn (.revoking 1) none with map := 0 })
    t.store.records = [] ∧ (t.products.getD 0 ⟨none, 0⟩).records = 0 := by decide

theorem witness_FrameClockAndStarvation :
    let s := (inMode .serving).withPort
      { State.reset.port with transfer := .shifting ⟨1, .filler⟩ 256, starvation := some 0 }
    s.run = .running ∧ s.port.transfer = .shifting ⟨1, .filler⟩ 256 ∧ 0 < 256 ∧ 256 ≤ 256 ∧
    s.port.starvation = some 0 ∧ (inMode .serving).port.transfer = .idle ∧
    (∀ x ∈ carouselFields ⟨0xFFFF, .grant 47 0xFFFFF (BitVec.allOnes 64) 4294967295 true true 3⟩, x.2 < 256 ^ x.1) ∧
    (∀ x ∈ carouselFields ⟨1, .announce 31 .live 1 0 (.closedAt 8060)⟩, x.2 < 256 ^ x.1) := by decide

/-- A walk at START with a record before it, over its product and over another one, and a walk past the last record. -/
theorem witness_SweepVisitsApplyTheJob :
    let s (k : JobKind) (products : BitVec 48) (position : Option Key) :=
      (selling (recordIn (.ring 1052) (some ⟨1060, true⟩))).withWalker ⟨some ⟨k, products, position, 0⟩, none, none, none⟩
    (∀ k, (s k 1 none).run = .running ∧ (s k 1 none).walker.running = some ⟨k, 1, none, 0⟩ ∧ (s k 1 none).StoreOk ∧
      recordIn (.ring 1052) (some ⟨1060, true⟩) ∈ (s k 1 none).store.records) ∧
    (1#48).getLsbD 0 = true ∧ (2#48).getLsbD 0 = false ∧ (s .void 2 none).StoreOk ∧
    (s .extend 1 (some ⟨40213, 0⟩)).StoreOk ∧
    ∀ r ∈ (s .extend 1 (some ⟨40213, 0⟩)).store.records, ¬((⟨40213, 0⟩ : Key).before r.key = true) :=
  ⟨fun k => ⟨rfl, rfl, selling_storeOk (.ring 1052) (some ⟨1060, true⟩), .head _⟩, by decide, by decide,
    selling_storeOk (.ring 1052) (some ⟨1060, true⟩), selling_storeOk (.ring 1052) (some ⟨1060, true⟩), by decide⟩

theorem witness_StepsKeepPacingInBounds :
    State.reset.SettingsOk ∧ State.reset.PacingOk ∧ State.reset.link.errors ≤ State.reset.settings.current.linkThreshold ∧
    ∃ t, step (State.reset.withPending [.rateInterval]) = .next t :=
  ⟨⟨by unfold Settings.InRange; decide, nofun, nofun, .inl rfl⟩, by unfold State.PacingOk; decide, by decide, _, rfl⟩

theorem witness_StepsKeepSupervisionConsistent :
    State.reset.SettingsOk ∧ (inMode .serving).SupervisionOk ∧
    ∃ t, step ((inMode .serving).withPending [.periodTimerExpiry]) = .next t :=
  ⟨⟨by unfold Settings.InRange; decide, nofun, nofun, .inl rfl⟩, by unfold State.SupervisionOk; decide, _, rfl⟩

theorem witness_StepsKeepAttnWhileUrgent :
    State.reset.notices.queue.length = 1 ∧ State.reset.NoticesOk ∧
    ∃ t, step (State.reset.withPending [.configuringWindowExpiry]) = .next t :=
  ⟨rfl, by unfold State.NoticesOk; decide, _, rfl⟩

theorem witness_StepsKeepMarksMatchingStates :
    (holds .serving 31 .onSale).events.length = 32 ∧ (holds .serving 31 .onSale).MarksOk ∧
    ∃ t, step ((holds .serving 31 .onSale).withPending [.markFiring]) = .next t :=
  ⟨rfl, holds_marksOk _ _ (by decide) _, _, rfl⟩

theorem witness_StepsKeepTheStoreWellFormed :
    (selling (recordIn .prompt none)).StoreOk ∧
    ∃ t, step ((selling (recordIn .prompt none)).withPending [.slotGrant 1000]) = .next t :=
  ⟨selling_storeOk _ _, _, rfl⟩

theorem witness_PolicyAndStanddownChangeOnlyAsGiven :
    let s := { inMode .serving with run := .unpowered }
    (∃ t, exec (.powerOn false true) s = .next t ∧ t.sup.policy ≠ s.sup.policy) ∧
    (inMode .standdown).link.resetDue = none ∧ (inMode .standdown).sup.configTimer = none ∧
    (inMode .standdown).sup.mode = .standdown ∧
    ∃ t, exec .resetFullActs (inMode .standdown) = .next t ∧ t.sup.mode ≠ .standdown :=
  ⟨⟨_, rfl, by decide⟩, rfl, rfl, rfl, _, rfl, by decide +kernel⟩

theorem witness_FramesReadBackAsTheirCommands :
    linkFrame (.productDefine (hdr 7) 1 47 2 [0, 31]) = some (0x0B, hdr 7, [1, 47, 2, 0, 31]) ∧
    (hdr 7).len = [(1 : Byte), 47, 2, 0, 31].length + 2 ∧
    (Instr.productDefine (hdr 7) 1 47 2 [0, 31]).wellFormed = true := by decide

/-- Replies whose numbers fit: a STATUS reply, a NOTICES reply with a notice, a SHOW EVENT reply with its bound, mark and a
line, and a summary; the longest body; and a byte of a frame being sent. -/
theorem witness_FramesReadBackAsTheirCommands_bytes :
    let s := after (.status (hdr 2)) (inMode .serving)
    let summary := ReplyFields.summary .cut { batch with listed := [(1, .notHeld)] }
    Fits (replyFields (.status State.reset.report)) ∧
    Fits (replyFields (.notices State.reset.notices.queue 56 true)) ∧
    Fits (replyFields (.event 31 (entry .live) (.closedAt 8060) (some ⟨31, .finish, 8000⟩) 1 [(7, .hold)])) ∧
    Fits (replyFields summary) ∧ (List.replicate 250 (0 : Byte)).length ≤ 250 ∧ s.run = .running ∧
    (∃ o, s.link.tx = [o] ∧ (linkFrameBytes o.reply.body)[2]? = some 0x96) ∧
    ({ s with run := .heldInReset } : State).run ≠ .running ∧ (inMode .serving).link.tx = [] := by
  unfold Fits
  exact ⟨by decide, by decide, by decide, by decide, Nat.le_of_eq List.length_replicate, rfl, ⟨_, rfl, by decide⟩, nofun, rfl⟩

end Sys2Proof.Tests
end

section
/-! PROOF. The Region Map: REGION RULE in both forms, and the region of a block (R24, R25). -/

namespace Sys2Proof.Machine

/-! ### Answers and dispatch -/

/-- A rule that answers without fields on a served command of a ready part (R174). -/
theorem serve_plainReply (c : Instr) (rule : State → Answer) (s t : State) (status : Status) (h : s.ready)
    (hm : servedIn s.sup.mode c = true) (hl : lengthOk c = true) (hrule : rule (s.taken c) = plainReply status t) :
    serve c rule s = .next (t.answer c status .none) := by
  rw [serve_served c rule s h hm hl, hrule]
  rfl

theorem exec_regionRuleSet (h : Hdr) (form idx : BitVec 8) (pattern mask : BitVec 24) (region : BitVec 8) (s : State) :
    exec (.regionRuleSet h form idx pattern mask region) s =
      serve (.regionRuleSet h form idx pattern mask region) (regionSetRule form idx pattern mask region) s := rfl

theorem exec_regionRuleClear (h : Hdr) (form idx : BitVec 8) (s : State) :
    exec (.regionRuleClear h form idx) s = serve (.regionRuleClear h form idx) (regionClearRule idx) s := rfl

/-! ### REGION RULE (R24) -/

/-- REGION RULE, KIND 0x07, is served in CONFIGURING and MAINTENANCE (R24, R176). -/
theorem modeServes_regionRule {m : Mode} (hm : m = .configuring ∨ m = .maintenance) : modeServes m 0x07 = true := by
  obtain rfl | rfl := hm <;> decide

/-- The fields that the set form admits (R14, R24). -/
def RegionSetFields (form idx : BitVec 8) (pattern mask : BitVec 24) (region : BitVec 8) : Prop :=
  form = 1 ∧ idx.toNat < 32 ∧ pattern.toNat < 2 ^ 20 ∧ mask.toNat < 2 ^ 20 ∧ region.toNat < 64

theorem regionSetRule_of_fields (form idx : BitVec 8) (pattern mask : BitVec 24) (region : BitVec 8) (s : State)
    (hf : RegionSetFields form idx pattern mask region) :
    regionSetRule form idx pattern mask region s =
      plainReply .done
        (s.withRegions (s.regions.set idx.toNat (some ⟨pattern.setWidth 20, mask.setWidth 20, region.toNat⟩))) := by
  obtain ⟨rfl, hi, hp, hm, hr⟩ := hf
  refine if_neg ?_
  have hform : (1 : BitVec 8).toNat = 1 := rfl
  simp only [Bool.or_eq_true, bne_iff_ne, decide_eq_true_eq]
  omega

theorem regionSetRule_of_not_fields (form idx : BitVec 8) (pattern mask : BitVec 24) (region : BitVec 8) (s : State)
    (hf : ¬RegionSetFields form idx pattern mask region) :
    regionSetRule form idx pattern mask region s = plainReply .badField s := by
  refine if_pos ?_
  have hform : form = 1 ↔ form.toNat = 1 := BitVec.toNat_inj.symm
  simp only [RegionSetFields, hform] at hf
  simp only [Bool.or_eq_true, bne_iff_ne, decide_eq_true_eq]
  omega

theorem regionClearRule_of_lt (idx : BitVec 8) (s : State) (hi : idx.toNat < 32) :
    regionClearRule idx s = plainReply .done (s.withRegions (s.regions.set idx.toNat none)) :=
  if_neg (Nat.not_le.mpr hi)

theorem regionClearRule_of_not_lt (idx : BitVec 8) (s : State) (hi : ¬idx.toNat < 32) :
    regionClearRule idx s = plainReply .badField s :=
  if_pos (Nat.not_lt.mp hi)

/-! ### The region of a block (R25) -/

/-- Every block bit in the care mask equals the pattern bit (R25). -/
def RegionRule.Matches (r : RegionRule) (block : Nat) : Prop :=
  ∀ k < 20, r.mask.getLsbD k = true → block.testBit k = r.pattern.getLsbD k

theorem RegionRule.hits_iff (r : RegionRule) (block : Nat) :
    r.hits (BitVec.ofNat 20 block) = true ↔ r.Matches block := by
  have bits : ∀ x y m : Bool, ((x ^^ y) && m) = false ↔ (m = true → x = y) := by decide
  rw [RegionRule.hits, beq_iff_eq, BitVec.eq_of_getLsbD_eq_iff]
  refine forall₂_congr fun k hk => ?_
  have hblock : (BitVec.ofNat 20 block).getLsbD k = block.testBit k := by
    rw [BitVec.getLsbD_ofNat, decide_eq_true hk, Bool.true_and]
  have hzero : (0 : BitVec 20).getLsbD k = false := BitVec.getLsbD_zero
  rw [BitVec.getLsbD_and, BitVec.getLsbD_xor, hblock, hzero, bits]

/-- What one entry of the map gives for a block. -/
def ruleRegion (block : Nat) : Option RegionRule → Option Nat
  | some rule => if rule.hits (BitVec.ofNat 20 block) then some rule.region else none
  | none => none

theorem ruleRegion_of_matches (block : Nat) (r : RegionRule) (h : r.Matches block) :
    ruleRegion block (some r) = some r.region := if_pos ((r.hits_iff block).mpr h)

theorem ruleRegion_eq_none_iff (block : Nat) (entry : Option RegionRule) :
    ruleRegion block entry = none ↔ ∀ r, entry = some r → ¬r.Matches block := by
  cases entry <;> simp [ruleRegion, RegionRule.hits_iff]

theorem State.regionOf_eq (s : State) (block : Nat) :
    s.regionOf block = (s.regions.findSome? (ruleRegion block)).getD s.settings.current.defaultRegion := by
  change (match s.regions.findSome? (ruleRegion block) with
    | some region => region
    | none => s.settings.current.defaultRegion) = _
  cases s.regions.findSome? (ruleRegion block) <;> rfl

/-- The first matching rule gives the region (R25). -/
theorem State.regionOf_of_first (s : State) (block i : Nat) (rule : RegionRule)
    (hi : s.regions[i]? = some (some rule)) (hrule : rule.Matches block)
    (hfirst : ∀ j r, j < i → s.regions[j]? = some (some r) → ¬r.Matches block) : s.regionOf block = rule.region := by
  obtain ⟨hlt, hget⟩ := List.getElem?_eq_some_iff.mp hi
  have cut : s.regions = s.regions.take i ++ some rule :: s.regions.drop (i + 1) := by
    rw [← hget, List.getElem_cons_drop, List.take_append_drop]
  have before : ∀ entry ∈ s.regions.take i, ruleRegion block entry = none := by
    intro entry hmem
    rw [ruleRegion_eq_none_iff]
    rintro r rfl
    obtain ⟨j, hj, hr⟩ := List.mem_take_iff_getElem.mp hmem
    exact hfirst j r (by omega) (List.getElem?_eq_some_iff.mpr ⟨by omega, hr⟩)
  have found : s.regions.findSome? (ruleRegion block) = some rule.region :=
    List.findSome?_eq_some_iff.mpr ⟨_, _, _, cut, ruleRegion_of_matches block rule hrule, before⟩
  rw [State.regionOf_eq, found, Option.getD_some]

/-- With no matching rule the default region stands (R25). -/
theorem State.regionOf_of_no_match (s : State) (block : Nat)
    (h : ∀ r, some r ∈ s.regions → ¬r.Matches block) : s.regionOf block = s.settings.current.defaultRegion := by
  have missed : s.regions.findSome? (ruleRegion block) = none :=
    List.findSome?_eq_none_iff.mpr fun entry hmem =>
      (ruleRegion_eq_none_iff block entry).mpr fun r hr => h r (hr ▸ hmem)
  rw [State.regionOf_eq, missed, Option.getD_none]

/-! ### The statement -/

/-- REGION RULE in the set form on a ready part (R24). -/
theorem exec_regionRuleSet_ready (h : Hdr) (form idx : BitVec 8) (pattern mask : BitVec 24) (region : BitVec 8)
    (s : State) (hready : s.ready) (hmode : s.sup.mode = .configuring ∨ s.sup.mode = .maintenance) (hlen : h.len = 11) :
    let c := Instr.regionRuleSet h form idx pattern mask region
    exec c s = .next
      (if form = 1 ∧ idx.toNat < 32 ∧ pattern.toNat < 2 ^ 20 ∧ mask.toNat < 2 ^ 20 ∧ region.toNat < 64 then
        ((s.taken c).withRegions
          (s.regions.set idx.toNat (some ⟨pattern.setWidth 20, mask.setWidth 20, region.toNat⟩))).answer c .done .none
      else (s.taken c).answer c .badField .none) := by
  intro c
  have hm : servedIn s.sup.mode c = true := modeServes_regionRule hmode
  have hl : lengthOk c = true := by simp [c, lengthOk, hlen]
  have hregions : (s.taken c).regions = s.regions := by simp
  rw [exec_regionRuleSet, ← hregions]
  split
  next hf => exact serve_plainReply c _ s _ .done hready hm hl (regionSetRule_of_fields _ _ _ _ _ _ hf)
  next hf => exact serve_plainReply c _ s _ .badField hready hm hl (regionSetRule_of_not_fields _ _ _ _ _ _ hf)

/-- REGION RULE in the clear form on a ready part (R24). -/
theorem exec_regionRuleClear_ready (h : Hdr) (form idx : BitVec 8) (s : State) (hready : s.ready)
    (hmode : s.sup.mode = .configuring ∨ s.sup.mode = .maintenance) (hlen : h.len = 4) :
    let c := Instr.regionRuleClear h form idx
    exec c s = .next
      (if idx.toNat < 32 then ((s.taken c).withRegions (s.regions.set idx.toNat none)).answer c .done .none
      else (s.taken c).answer c .badField .none) := by
  intro c
  have hm : servedIn s.sup.mode c = true := modeServes_regionRule hmode
  have hl : lengthOk c = true := by simp [c, lengthOk, hlen]
  have hregions : (s.taken c).regions = s.regions := by simp
  rw [exec_regionRuleClear, ← hregions]
  split
  next hi => exact serve_plainReply c _ s _ .done hready hm hl (regionClearRule_of_lt _ _ hi)
  next hi => exact serve_plainReply c _ s _ .badField hready hm hl (regionClearRule_of_not_lt _ _ hi)

/-- Settles O13: both forms of REGION RULE by their own rule on the command taken; the region of a block by where the search
of the map stops. -/
theorem regionRulesMapBlocks : Obligations.RegionRulesMapBlocks := by
  refine ⟨exec_regionRuleSet_ready, fun h idx => exec_regionRuleClear_ready h 2 idx, State.regionOf_of_first, ?_⟩
  intro s block hmiss
  refine s.regionOf_of_no_match block fun r hr hmatch => ?_
  obtain ⟨k, hk, hcare, hne⟩ := hmiss r hr
  exact hne (hmatch k hk hcare)

end Sys2Proof.Machine
end

section
/-! PROOF. The resets: what every reset kind empties, and the mode it leaves (R50, R148, R163, R164). -/

namespace Sys2Proof.Machine

/-! ### Dispatch -/

theorem exec_resetTablesActs (s : State) : exec .resetTablesActs s = s.live State.resetTablesActs := rfl

theorem exec_resetFullActs (s : State) : exec .resetFullActs s = s.live State.resetFullActs := rfl

theorem exec_configuringWindowExpiry (s : State) : exec .configuringWindowExpiry s = s.live State.windowExpired := rfl

theorem exec_powerOn (p q : Bool) (s : State) : exec (.powerOn p q) s = .next (s.release p q) := rfl

theorem exec_resetLine_of_powered (p q : Bool) (s : State) (h : s.run ≠ .unpowered) :
    exec (.resetLine p q) s = .next (s.release p q) := by
  change Host.Outcome.next (if s.run = .unpowered then s else s.release p q) = _
  rw [if_neg h]

/-- A step of a running part acts (R96, R167). -/
theorem State.live_running (s : State) (f : State → State) (h : s.run = .running) : s.live f = .next (f s) :=
  congrArg Host.Outcome.next (if_pos h)

/-! ### The state that a reset leaves -/

/-- What a reset empties or returns to its start, the Supervision Unit apart: every table, the Mark List, the Grant Store,
the walker, the lines, the announcements and the batch, and W_eff at W_cfg. -/
structure State.IsEmptied (t : State) : Prop where
  events : t.events = emptyEvents
  products : t.products = emptyProducts
  regions : t.regions = emptyRegions
  marks : t.marks = []
  store : t.store = .empty
  walker : t.walker = .idle
  lines : t.cues.lines = List.replicate 8 .unbound
  announcements : t.arbiter.announcements = []
  timePending : t.arbiter.timePending = false
  retired : t.arbiter.retired = 0
  window : t.pacing.window = t.settings.current.windowConfigured
  batch : t.link.batch = none

/-- A state that has just been reset: emptied, and the Supervision Unit at the start of CONFIGURING (R148, R149). -/
structure State.IsFresh (t : State) : Prop extends t.IsEmptied where
  mode : t.sup.mode = .configuring
  faults : t.sup.faults = 0
  collection : t.sup.collection = 0
  period : t.sup.period = none
  configTimer : t.sup.configTimer = some (t.settings.current.configWindow * 1000)

/-- Entry to CONFIGURING clears the collection and the fault count, ends the period and starts the configuring-window
timer from the current setting (R148, R149). -/
theorem State.enterConfiguring_sup (s : State) :
    s.enterConfiguring.sup.faults = 0 ∧ s.enterConfiguring.sup.collection = 0 ∧ s.enterConfiguring.sup.period = none ∧
    s.enterConfiguring.sup.configTimer = some (s.settings.current.configWindow * 1000) := by
  simp [State.enterConfiguring, State.issueChallenge]

/-- Entry to CONFIGURING finishes a reset. -/
theorem State.IsEmptied.enterConfiguring {s : State} (h : s.IsEmptied) : s.enterConfiguring.IsFresh := by
  obtain ⟨hfaults, hcollection, hperiod, htimer⟩ := s.enterConfiguring_sup
  obtain ⟨⟩ := h
  refine ⟨?_, ?_, hfaults, hcollection, hperiod, ?_⟩
  · constructor <;> simpa
  · simp
  · simpa

/-- A reset stays one when a notice is posted. -/
theorem State.IsFresh.post {s : State} (h : s.IsFresh) (kind : NoticeKind) (subject : Subject) (value : NoticeValue) :
    (s.post kind subject value).IsFresh := by
  obtain ⟨⟨⟩⟩ := h
  refine ⟨?_, ?_, ?_, ?_, ?_, ?_⟩
  · constructor <;> simpa
  all_goals simpa

/-- A reset stays one when a link without a batch takes the link's place. -/
theorem State.IsFresh.withLink {s : State} (h : s.IsFresh) (l : Link) (hl : l.batch = none) : (s.withLink l).IsFresh :=
  { h with batch := hl }

/-- RESET TABLES and configuring-window expiry (R68, R98, R149, R163). -/
theorem State.resetTables_isFresh (s : State) : s.resetTables.IsFresh := by
  unfold State.resetTables
  apply State.IsEmptied.enterConfiguring
  constructor <;> simp [CueMonitor.cleared]

theorem State.resetTablesActs_isFresh (s : State) : s.resetTablesActs.IsFresh :=
  s.resetTables_isFresh.withLink _ (by simp)

theorem State.windowExpired_isFresh (s : State) (h : s.sup.configTimer.isSome = true) : s.windowExpired.IsFresh := by
  unfold State.windowExpired
  rw [if_pos h]
  exact s.resetTables_isFresh.post ..

/-- A start from the settings that it loads, which power-on, the reset line and RESET FULL share (R164). -/
theorem State.start_isFresh (s : State) (port : Port) : (s.start port).IsFresh := by
  unfold State.start
  dsimp only
  split
  · apply State.IsFresh.post
    apply State.IsEmptied.enterConfiguring
    constructor <;> simp [CueMonitor.cleared, Arbiter.start, Pacing.start, Link.start]
  · apply State.IsEmptied.enterConfiguring
    constructor <;> simp [CueMonitor.cleared, Arbiter.start, Pacing.start, Link.start]

theorem State.resetFullActs_isFresh (s : State) : s.resetFullActs.IsFresh := s.start_isFresh _

theorem State.release_isFresh (s : State) (p q : Bool) : (s.release p q).IsFresh := State.start_isFresh _ _

/-! ### What stands in a fresh state -/

theorem State.IsFresh.event? {s : State} (h : s.IsFresh) (i : Nat) : s.event? i = none := by
  unfold State.event?
  rw [h.events, emptyEvents, List.getD_eq_getElem?_getD, List.getElem?_replicate]
  split <;> rfl

theorem State.IsFresh.product? {s : State} (h : s.IsFresh) (p : Nat) : s.product? p = none := by
  unfold State.product?
  rw [h.products, emptyProducts, List.getD_eq_getElem?_getD, List.getElem?_replicate]
  split <;> rfl

theorem State.IsFresh.records {s : State} (h : s.IsFresh) (x : ProductEntry) (hx : x ∈ s.products) : x.records = 0 := by
  rw [h.products] at hx
  rw [List.eq_of_mem_replicate hx]

theorem State.IsFresh.region {s : State} (h : s.IsFresh) (r : Option RegionRule) (hr : r ∈ s.regions) : r = none := by
  rw [h.regions] at hr
  exact List.eq_of_mem_replicate hr

theorem State.IsFresh.line {s : State} (h : s.IsFresh) (l : CueLine) (hl : l ∈ s.cues.lines) : l = .unbound := by
  rw [h.lines] at hl
  exact List.eq_of_mem_replicate hl

/-! ### The statement -/

/-- Settles O3: each reset kind ends in a fresh state, and the tables of a fresh state are empty. -/
theorem everyResetEmptiesTheTables : Obligations.EveryResetEmptiesTheTables := by
  intro c s t hreset hexec
  have fresh : t.IsFresh := by
    rcases hreset with ⟨hrun, rfl | rfl⟩ | ⟨hrun, rfl, htimer⟩ | ⟨p, q, rfl⟩ | ⟨hpower, p, q, rfl⟩
    · rw [exec_resetTablesActs, s.live_running _ hrun] at hexec
      exact Host.Outcome.next.inj hexec ▸ s.resetTablesActs_isFresh
    · rw [exec_resetFullActs, s.live_running _ hrun] at hexec
      exact Host.Outcome.next.inj hexec ▸ s.resetFullActs_isFresh
    · rw [exec_configuringWindowExpiry, s.live_running _ hrun] at hexec
      exact Host.Outcome.next.inj hexec ▸ s.windowExpired_isFresh htimer
    · rw [exec_powerOn] at hexec
      exact Host.Outcome.next.inj hexec ▸ s.release_isFresh p q
    · rw [exec_resetLine_of_powered p q s hpower] at hexec
      exact Host.Outcome.next.inj hexec ▸ s.release_isFresh p q
  have hstore : t.store = ⟨[], [], [], [], true⟩ := fresh.store
  rw [hstore]
  exact ⟨fresh.mode, fresh.event?, fresh.product?, fresh.records, fresh.region, fresh.marks, rfl, rfl, rfl, rfl, rfl,
    fresh.walker, fresh.line, fresh.announcements, fresh.timePending, fresh.retired, fresh.window, fresh.batch,
    fresh.faults, fresh.collection, fresh.period, fresh.configTimer⟩

end Sys2Proof.Machine
end

section
/-! PROOF. The queries: GET, STATUS and the four show commands (R28, R29, R48, R49, R166, R177). -/

namespace Sys2Proof.Machine

/-! ### Dispatch -/

theorem exec_get (h : Hdr) (id : BitVec 8) (s : State) : exec (.get h id) s = serve (.get h id) (getRule id) s := rfl

theorem exec_status (h : Hdr) (s : State) :
    exec (.status h) s = serve (.status h) (fun s => (some (.done, .status s.report), s)) s := rfl

theorem exec_showEvent (h : Hdr) (idx : BitVec 8) (s : State) :
    exec (.showEvent h idx) s = serve (.showEvent h idx) (showEventRule idx) s := rfl

theorem exec_showProduct (h : Hdr) (idx : BitVec 8) (s : State) :
    exec (.showProduct h idx) s = serve (.showProduct h idx) (showProductRule idx) s := rfl

theorem exec_showRecord (h : Hdr) (block : BitVec 32) (product : BitVec 8) (s : State) :
    exec (.showRecord h block product) s = serve (.showRecord h block product) (showRecordRule block product) s := rfl

theorem exec_showDecoder (h : Hdr) (addr : BitVec 32) (s : State) :
    exec (.showDecoder h addr) s = serve (.showDecoder h addr) (showDecoderRule addr) s := rfl

/-! ### Answers of commands that every mode serves -/

/-- A kind of the first row of R176 is served in every mode. -/
theorem modeServes_of_always (m : Mode) (kind : Nat) (h : kind ∈ alwaysServed) : modeServes m kind = true := by
  unfold modeServes
  rw [List.contains_iff_mem.mpr h, Bool.true_or]

/-- A rule that answers on a served command of a ready part (R174). -/
theorem serve_reply (c : Instr) (rule : State → Answer) (s t : State) (status : Status) (fields : ReplyFields)
    (h : s.ready) (hm : servedIn s.sup.mode c = true) (hl : lengthOk c = true)
    (hrule : rule (s.taken c) = (some (status, fields), t)) : serve c rule s = .next (t.answer c status fields) := by
  rw [serve_served c rule s h hm hl, hrule]

/-! ### What queries read of a state that has taken a command -/

/-- Taking a command changes nothing of what the tables and the store are asked for. -/
@[simp] theorem State.taken_reads (s : State) (c : Instr) :
    (s.taken c).event? = s.event? ∧ (s.taken c).eventBound = s.eventBound ∧ (s.taken c).product? = s.product? ∧
    (s.taken c).admitting = s.admitting ∧ (s.taken c).demand = s.demand := by
  have hevent : (s.taken c).event? = s.event? := by funext i; simp [State.event?]
  have hproduct : (s.taken c).product? = s.product? := by funext p; simp [State.product?]
  refine ⟨hevent, ?_, hproduct, ?_, ?_⟩
  · funext i; simp [State.eventBound, hevent]
  · funext i; simp [State.admitting, State.admits, hproduct]
  · simp [State.demand]

@[simp] theorem State.taken_report (s : State) (c : Instr) : (s.taken c).report = s.report := by
  simp [State.report]

/-- The ring is in demand where its head has a due time that is reached (R87). -/
theorem State.demand_iff (s : State) :
    s.demand = true ↔
      ∃ k r d, s.store.ring.head? = some k ∧ s.store.find k = some r ∧ r.place = .ring d ∧ d ≤ s.clock.seconds := by
  unfold State.demand GrantStore.inDemand GrantStore.dueOf
  cases hk : s.store.ring.head? with
  | none => simp
  | some k =>
    cases hr : s.store.find k with
    | none => simp [hr]
    | some r => cases hp : r.place <;> simp [hr, hp]

/-- The block of a decoder address is its bits above the slot (R49). -/
theorem blockOf_eq_div (addr : BitVec 32) (h : addr.toNat < 2 ^ 26) : blockOf addr = addr.toNat / 64 := by
  simp only [blockOf, BitVec.extractLsb'_toNat, Nat.shiftRight_eq_div_pow]
  omega

theorem slotOf_eq_mod (addr : BitVec 32) : slotOf addr = addr.toNat % 64 := by
  simp [slotOf, BitVec.extractLsb'_toNat]

/-! ### Each query -/

theorem exec_get_ready (h : Hdr) (id : BitVec 8) (s : State) (hready : s.ready) (hlen : h.len = 3) :
    let c := Instr.get h id
    exec c s = .next
      (match settingValue s.settings.current id.toNat, valueInForce s.settings id.toNat with
      | some v, some w => (s.taken c).answer c .done (.settingRead id v w)
      | _, _ => (s.taken c).answer c .badField .none) := by
  intro c
  have replies := serve_reply c (getRule id) s (s.taken c) (h := hready)
    (hm := modeServes_of_always _ 0x02 (by decide)) (hl := by simp [c, lengthOk, hlen])
  rw [exec_get]
  split
  next v w hv hw => exact replies _ _ (by simp [getRule, hv, hw])
  next hnone => exact replies _ _ (by unfold getRule; split <;> simp_all [plainReply])

theorem exec_status_ready (h : Hdr) (s : State) (hready : s.ready) (hlen : h.len = 2) :
    let c := Instr.status h
    exec c s = .next ((s.taken c).answer c .done (.status s.report)) := by
  intro c
  exact serve_reply c _ s (s.taken c) _ _ hready (modeServes_of_always _ 0x16 (by decide)) (by simp [c, lengthOk, hlen])
    (by simp)

theorem exec_showEvent_ready (h : Hdr) (idx : BitVec 8) (s : State) (hready : s.ready) (hlen : h.len = 3) :
    let c := Instr.showEvent h idx
    let i := idx.toNat
    exec c s = .next
      (if 32 ≤ i then (s.taken c).answer c .badField .none
      else
        match s.event? i with
        | none => (s.taken c).answer c .noEvent .none
        | some e =>
          (s.taken c).answer c .done
            (.event i e e.bound (s.marks.find? fun m => m.event == i) (s.admitting i) (s.cues.boundLines i))) := by
  intro c i
  have replies := serve_reply c (showEventRule idx) s (s.taken c) (h := hready)
    (hm := modeServes_of_always _ 0x17 (by decide)) (hl := by simp [c, lengthOk, hlen])
  rw [exec_showEvent]
  split
  next hi => exact replies _ _ (if_pos hi)
  next hi =>
    split
    next he => exact replies _ _ (by simp [showEventRule, hi, he, i, plainReply])
    next e he => exact replies _ _ (by simp [showEventRule, hi, he, i])

theorem exec_showProduct_ready (h : Hdr) (idx : BitVec 8) (s : State) (hready : s.ready) (hlen : h.len = 3) :
    let c := Instr.showProduct h idx
    let p := idx.toNat
    exec c s = .next
      (if 48 ≤ p then (s.taken c).answer c .badField .none
      else
        match s.product? p with
        | none => (s.taken c).answer c .noProduct .none
        | some d =>
          (s.taken c).answer c .done
            (.product p d (s.products.getD p ⟨none, 0⟩).records
              (d.events.map fun i => (i, (s.event? i).map EventEntry.state, s.eventBound i)))) := by
  intro c p
  have replies := serve_reply c (showProductRule idx) s (s.taken c) (h := hready)
    (hm := modeServes_of_always _ 0x18 (by decide)) (hl := by simp [c, lengthOk, hlen])
  rw [exec_showProduct]
  split
  next hp => exact replies _ _ (if_pos hp)
  next hp =>
    split
    next hd => exact replies _ _ (by simp [showProductRule, hp, hd, p, plainReply])
    next d hd => exact replies _ _ (by simp [showProductRule, hp, hd, p])

theorem exec_showRecord_ready (h : Hdr) (block : BitVec 32) (product : BitVec 8) (s : State) (hready : s.ready)
    (hlen : h.len = 7) :
    let c := Instr.showRecord h block product
    let k : Key := ⟨block.toNat, product.toNat⟩
    exec c s = .next
      (if 2 ^ 20 ≤ block.toNat ∨ 48 ≤ product.toNat then (s.taken c).answer c .badField .none
      else if s.product? product.toNat = none then (s.taken c).answer c .noProduct .none
      else
        match s.store.find k with
        | none => (s.taken c).answer c .notHeld .none
        | some r =>
          (s.taken c).answer c .done (.record r ((s.store.keysOf r.place.listName).idxOf k + 1))) := by
  intro c k
  have replies := serve_reply c (showRecordRule block product) s (s.taken c) (h := hready)
    (hm := modeServes_of_always _ 0x19 (by decide)) (hl := by simp [c, lengthOk, hlen])
  rw [exec_showRecord]
  split
  next hfield => exact replies _ _ (if_pos (by simpa using hfield))
  next hfield =>
    have hfields : (decide (1048576 ≤ block.toNat) || decide (48 ≤ product.toNat)) = false := by
      rw [Bool.or_eq_false_iff, decide_eq_false_iff_not, decide_eq_false_iff_not]
      exact not_or.mp hfield
    split
    next hproduct =>
      refine replies _ _ ?_
      simp only [showRecordRule, plainReply, hfields, State.taken_reads, hproduct, Option.isNone_none, if_true,
        Bool.false_eq_true, if_false]
    next hproduct =>
      have hdefined : (s.product? product.toNat).isNone = false :=
        Bool.eq_false_iff.mpr (mt Option.isNone_iff_eq_none.mp hproduct)
      split
      next hr =>
        refine replies _ _ ?_
        simp only [showRecordRule, plainReply, hfields, State.taken_reads, State.taken_frame, hdefined,
          Bool.false_eq_true, if_false]
        rw [hr]
      next r hr =>
        refine replies _ _ ?_
        simp only [showRecordRule, hfields, State.taken_reads, State.taken_frame, hdefined, Bool.false_eq_true,
          if_false]
        rw [hr]

theorem exec_showDecoder_ready (h : Hdr) (addr : BitVec 32) (s : State) (hready : s.ready) (hlen : h.len = 6) :
    let c := Instr.showDecoder h addr
    exec c s = .next
      (if 2 ^ 26 ≤ addr.toNat then (s.taken c).answer c .badField .none
      else
        (s.taken c).answer c .done
          (.decoder
            ((s.store.records.filter fun r =>
              r.key.block == addr.toNat / 64 && r.map.getLsbD (addr.toNat % 64)).map fun r =>
              (r.key.product, r.place.listName, r.stamp.map Stamp.horizon)))) := by
  intro c
  have replies := serve_reply c (showDecoderRule addr) s (s.taken c) (h := hready)
    (hm := modeServes_of_always _ 0x1A (by decide)) (hl := by simp [c, lengthOk, hlen])
  rw [exec_showDecoder]
  split
  next haddr => exact replies _ _ (if_pos haddr)
  next haddr =>
    have hblock := blockOf_eq_div addr (Nat.not_le.mp haddr)
    have hin : ¬67108864 ≤ addr.toNat := haddr
    refine replies _ _ ?_
    unfold showDecoderRule
    rw [if_neg hin]
    simp only [hblock, slotOf_eq_mod, State.taken_frame]

/-! ### The statement -/

/-- Settles O38: each query by its own rule on the command taken; the demand flag of STATUS by where the ring head is due. -/
theorem queriesReportAndChangeNothing : Obligations.QueriesReportAndChangeNothing := fun h s hready =>
  ⟨fun id => exec_get_ready h id s hready,
    fun hlen => ⟨s.demand, s.demand_iff, exec_status_ready h s hready hlen⟩,
    fun idx => exec_showEvent_ready h idx s hready,
    fun idx => exec_showProduct_ready h idx s hready,
    fun block product => exec_showRecord_ready h block product s hready,
    fun addr => exec_showDecoder_ready h addr s hready⟩

end Sys2Proof.Machine
end

section
/-! PROOF. The sweep visits: the record that a walk visits, the job actions on it, and the start of the next job
(R44 to R46, R115, R116, R119). -/

namespace Sys2Proof.Machine

theorem exec_sweepVisit (s : State) : exec .sweepVisit s = s.live State.visit := rfl

/-! ### The records and the lists of a well-formed store (R31, R32) -/

theorem Key.before_irrefl (k : Key) : k.before k = false := by
  simp [Key.before]

theorem Key.ne_of_before {a b : Key} (h : a.before b = true) : a ≠ b := by
  rintro rfl
  exact Bool.false_ne_true (a.before_irrefl.symm.trans h)

/-- In key order the records ahead of a record have lesser keys, and those behind it have greater ones. -/
theorem before_of_sorted {ahead behind : List GrantRecord} {r : GrantRecord}
    (h : (ahead ++ r :: behind).Pairwise fun a b => a.key.before b.key = true) :
    (∀ x ∈ ahead, x.key.before r.key = true) ∧ (∀ x ∈ behind, r.key.before x.key = true) := by
  obtain ⟨-, htail, hcross⟩ := List.pairwise_append.mp h
  exact ⟨fun x hx => hcross x hx r (List.mem_cons_self ..), (List.pairwise_cons.mp htail).1⟩

section
variable {g : GrantStore} {r : GrantRecord} (hw : g.Wf) (hr : r ∈ g.records)
include hw

theorem GrantStore.Wf.nodup_records : g.records.Nodup := by
  obtain ⟨hsorted, -⟩ := hw
  exact hsorted.imp fun hbefore heq => Key.ne_of_before hbefore (congrArg GrantRecord.key heq)

include hr

/-- A key has at most one record (R31). -/
theorem GrantStore.Wf.eq_of_key {x : GrantRecord} (hx : x ∈ g.records) (h : x.key = r.key) : x = r := by
  obtain ⟨hsorted, -⟩ := hw
  obtain ⟨ahead, behind, hcut⟩ := List.append_of_mem hr
  rw [hcut] at hsorted hx
  obtain ⟨hahead, hbehind⟩ := before_of_sorted hsorted
  rcases List.mem_append.mp hx with hx | hx
  · exact absurd h (Key.ne_of_before (hahead x hx))
  · rcases List.mem_cons.mp hx with rfl | hx
    · rfl
    · exact absurd h.symm (Key.ne_of_before (hbehind x hx))

theorem GrantStore.Wf.find_key : g.find r.key = some r := by
  have found : (g.find r.key).isSome = true := List.find?_isSome.mpr ⟨r, hr, beq_self_eq_true _⟩
  obtain ⟨x, hx⟩ := Option.isSome_iff_exists.mp found
  obtain ⟨hkey, hmem⟩ := g.find_some r.key x hx
  rw [hx, hw.eq_of_key hr hmem hkey]

theorem GrantStore.Wf.mem_list_iff {l : List Key} {inList : Place → Bool} (hl : ListHolds g l inList) :
    r.key ∈ l ↔ inList r.place = true := by
  rw [hl.2 r.key]
  constructor
  · rintro ⟨x, hx, hkey, hin⟩
    rwa [← hw.eq_of_key hr hx hkey]
  · exact fun hin => ⟨r, hr, rfl, hin⟩

/-- A record stands in the service list that its place names, and in no other one (R32). -/
theorem GrantStore.Wf.mem_lists :
    (r.key ∈ g.prompt ↔ r.place.listName = .prompt) ∧ (r.key ∈ g.ring ↔ r.place.listName = .ring) ∧
    (r.key ∈ g.revoking ↔ r.place.listName = .revoking) := by
  have ⟨_, _, hprompt, hring, hrevoking, _⟩ := hw
  refine ⟨(hw.mem_list_iff hr hprompt).trans ?_, (hw.mem_list_iff hr hring).trans ?_,
    (hw.mem_list_iff hr hrevoking).trans ?_⟩ <;> exact beq_iff_eq

theorem GrantStore.Wf.erase_prompt (h : r.place.listName ≠ .prompt) : g.prompt.erase r.key = g.prompt :=
  List.erase_of_not_mem (mt (hw.mem_lists hr).1.mp h)

theorem GrantStore.Wf.erase_ring (h : r.place.listName ≠ .ring) : g.ring.erase r.key = g.ring :=
  List.erase_of_not_mem (mt (hw.mem_lists hr).2.1.mp h)

theorem GrantStore.Wf.erase_revoking (h : r.place.listName ≠ .revoking) : g.revoking.erase r.key = g.revoking :=
  List.erase_of_not_mem (mt (hw.mem_lists hr).2.2.mp h)

/-- To take a record out of its own list is to take it out of every list, since it stands in no other one (R32). -/
theorem GrantStore.Wf.unlist_eq :
    g.unlist r.key r.place =
      { g with prompt := g.prompt.erase r.key, ring := g.ring.erase r.key, revoking := g.revoking.erase r.key } := by
  have hprompt := hw.erase_prompt hr
  have hring := hw.erase_ring hr
  have hrevoking := hw.erase_revoking hr
  cases hp : r.place with
  | prompt =>
    rw [hring (by simp [hp, Place.listName]), hrevoking (by simp [hp, Place.listName])]
    rfl
  | ring due =>
    rw [hprompt (by simp [hp, Place.listName]), hrevoking (by simp [hp, Place.listName])]
    rfl
  | revoking copies =>
    rw [hprompt (by simp [hp, Place.listName]), hring (by simp [hp, Place.listName])]
    rfl

/-- The lists after a record has moved: its key is out of each, and then at the tail of the new one (R32). -/
theorem GrantStore.Wf.move_eq (r' : GrantRecord) (hkey : r'.key = r.key) :
    g.move r.place r' =
      GrantStore.enlist
        { records := (g.update r').records, prompt := g.prompt.erase r.key, ring := g.ring.erase r.key,
          revoking := g.revoking.erase r.key, highArmed := g.highArmed } r.key r'.place := by
  unfold GrantStore.move
  rw [hkey, hw.unlist_eq hr]
  rfl

/-- The store after a record was freed (R34). -/
theorem GrantStore.Wf.free_eq :
    g.free r =
      { records := g.records.erase r, prompt := g.prompt.erase r.key, ring := g.ring.erase r.key,
        revoking := g.revoking.erase r.key,
        highArmed := g.highArmed || (g.records.erase r).length == 51999 } := by
  have hsame : ∀ x ∈ g.records, (x.key != r.key) = (x != r) := by
    intro x hx
    have : x.key = r.key ↔ x = r := ⟨hw.eq_of_key hr hx, congrArg GrantRecord.key⟩
    simp [bne, this, Bool.beq_eq_decide_eq]
  have hrecords : (g.records.filter fun x => x.key != r.key) = g.records.erase r := by
    rw [hw.nodup_records.erase_eq_filter, List.filter_congr hsame]
  unfold GrantStore.free
  rw [hw.unlist_eq hr]
  simp only [hrecords]

end

/-! ### The walk (R116) -/

/-- The key lies beyond a walk position, START lying before every key (R112). -/
def Key.Beyond (k : Key) (position : Option Key) : Prop := ∀ p, position = some p → p.before k = true

/-- In a store in key order, the record of least key among those that a test admits is the first that it admits. -/
theorem find?_of_least {l : List GrantRecord} (hl : l.Pairwise fun a b => a.key.before b.key = true)
    {test : GrantRecord → Bool} {r : GrantRecord} (hr : r ∈ l) (htest : test r = true)
    (hleast : ∀ x ∈ l, test x = true → x.key.before r.key = false) : l.find? test = some r := by
  obtain ⟨ahead, behind, rfl⟩ := List.append_of_mem hr
  refine List.find?_eq_some_iff_append.mpr ⟨htest, ahead, behind, rfl, fun x hx => ?_⟩
  have hbefore : x.key.before r.key = true := (before_of_sorted hl).1 x hx
  cases hadmits : test x with
  | false => rfl
  | true =>
    have hnot := hleast x (List.mem_append_left _ hx) hadmits
    exact absurd (hnot.symm.trans hbefore) Bool.false_ne_true

theorem GrantStore.after_eq_some {g : GrantStore} (hw : g.Wf) {position : Option Key} {r : GrantRecord}
    (hr : r ∈ g.records) (hbeyond : r.key.Beyond position)
    (hleast : ∀ x ∈ g.records, x.key.Beyond position → x.key.before r.key = false) : g.after position = some r := by
  obtain ⟨hsorted, -⟩ := hw
  cases position with
  | none => exact find?_of_least hsorted hr rfl fun x hx _ => hleast x hx nofun
  | some p =>
    refine find?_of_least hsorted hr (hbeyond p rfl) fun x hx hp => hleast x hx ?_
    rintro _ ⟨⟩
    exact hp

theorem GrantStore.after_eq_none {g : GrantStore} {position : Option Key}
    (h : ∀ r ∈ g.records, ¬r.key.Beyond position) : g.after position = none := by
  refine List.find?_eq_none.mpr fun r hr hp => h r hr ?_
  rintro p rfl
  exact hp

/-! ### The action of a visit (R44 to R46, R116) -/

/-- What a visit does to the record: the job's action within its product set, and nothing outside it; with it, whether the
record was changed. -/
def State.sweepAction (s : State) (j : Job) (r : GrantRecord) : Bool × State :=
  if j.products.getLsbD r.key.product then s.jobAction j.kind r else (false, s)

theorem State.visit_record (s : State) (j : Job) (r : GrantRecord) (hjob : s.walker.running = some j)
    (hafter : s.store.after j.position = some r) :
    s.visit =
      (s.sweepAction j r).2.withWalker
        { s.walker with
          running := some { j with
            position := some r.key, changed := j.changed + (s.sweepAction j r).1.toNat } } := by
  simp only [State.visit, hjob, hafter, State.sweepAction]

theorem State.visit_end (s : State) (j : Job) (hjob : s.walker.running = some j)
    (hafter : s.store.after j.position = none) :
    s.visit = (s.post .sweepDone .none (.sweep j.kind j.changed)).withWalker s.walker.startNext := by
  simp [State.visit, hjob, hafter]

theorem State.sweepAction_of_not_set (s : State) (j : Job) (r : GrantRecord)
    (h : j.products.getLsbD r.key.product = false) : s.sweepAction j r = (false, s) := by
  simp [State.sweepAction, h]

theorem State.sweepAction_of_set (s : State) (j : Job) (r : GrantRecord) {kind : JobKind}
    (h : j.products.getLsbD r.key.product = true) (hkind : j.kind = kind) :
    s.sweepAction j r = s.jobAction kind r :=
  hkind ▸ if_pos h

/-- The record stands in the ring under a clamped horizon, and so may now be given a later one (R44). -/
def GrantRecord.Extends (r : GrantRecord) : Prop := r.place.listName = .ring ∧ ∃ x, r.stamp = some ⟨x, true⟩

theorem State.extendRecord_of_extends (s : State) (r : GrantRecord) (h : r.Extends) :
    s.extendRecord r = (true, s.withStore (s.store.move r.place { r with place := .prompt })) := by
  obtain ⟨hring, x, hstamp⟩ := h
  unfold State.extendRecord
  cases hp : r.place with
  | ring due => simp only [hstamp]
  | prompt => simp [hp, Place.listName] at hring
  | revoking n => simp [hp, Place.listName] at hring

theorem State.extendRecord_of_not_extends (s : State) (r : GrantRecord) (h : ¬r.Extends) :
    s.extendRecord r = (false, s) := by
  unfold State.extendRecord
  split
  next due x hp hstamp => exact absurd ⟨by rw [hp]; rfl, x, hstamp⟩ h
  next => rfl

/-- A visit leaves a record alone outside the job's set, and where EXTEND has nothing to extend (R44, R116). -/
theorem State.sweepAction_of_alone (s : State) (j : Job) (r : GrantRecord)
    (h : j.products.getLsbD r.key.product = false ∨ j.kind = .extend ∧
      ¬(j.products.getLsbD r.key.product = true ∧ j.kind = .extend ∧ r.Extends)) :
    s.sweepAction j r = (false, s) := by
  cases hset : j.products.getLsbD r.key.product with
  | false => exact s.sweepAction_of_not_set j r hset
  | true =>
    obtain ⟨hkind, hmoves⟩ := h.resolve_left (by simp [hset])
    have hextends : ¬r.Extends := fun hx => hmoves ⟨hset, hkind, hx⟩
    exact (s.sweepAction_of_set j r hset hkind).trans (s.extendRecord_of_not_extends r hextends)

/-- The record as VOID leaves it: no slot, and the revocation copies owed (R46). -/
def State.voided (s : State) (r : GrantRecord) : GrantRecord :=
  { r with map := 0, place := .revoking s.settings.current.revocationCopies }

theorem State.voidRecord_eq (s : State) (r : GrantRecord) :
    s.voidRecord r =
      (true, s.withStore
        (if r.place.listName = .revoking then s.store.update (s.voided r) else s.store.move r.place (s.voided r))) := by
  unfold State.voidRecord State.voided
  cases r.place <;> rfl

/-- A visit acts on the Grant Store and the record counts alone. -/
theorem State.sweepAction_frame (s : State) (j : Job) (r : GrantRecord) :
    (s.sweepAction j r).2 =
      { s with store := (s.sweepAction j r).2.store, products := (s.sweepAction j r).2.products } := by
  cases hset : j.products.getLsbD r.key.product with
  | false => rw [s.sweepAction_of_not_set j r hset]
  | true =>
    rw [s.sweepAction_of_set j r hset rfl]
    cases j.kind with
    | void => simp only [State.jobAction, s.voidRecord_eq r, State.withStore]
    | purge => rfl
    | extend =>
      by_cases hx : r.Extends
      · simp only [State.jobAction, s.extendRecord_of_extends r hx, State.withStore]
      · simp only [State.jobAction, s.extendRecord_of_not_extends r hx]

section
variable {s : State} {r : GrantRecord} (hw : s.store.Wf) (hr : r ∈ s.store.records)
include hw hr

/-- A visit leaves every other record as it is. -/
theorem State.sweepAction_find_ne (j : Job) (k : Key) (hk : k ≠ r.key) :
    (s.sweepAction j r).2.store.find k = s.store.find k := by
  have hfind := hw.find_key hr
  cases hset : j.products.getLsbD r.key.product with
  | false => rw [s.sweepAction_of_not_set j r hset]
  | true =>
    rw [s.sweepAction_of_set j r hset rfl]
    cases j.kind with
    | void =>
      simp only [State.jobAction, s.voidRecord_eq r, State.withStore_store]
      split
      · exact (GrantStore.find_update _ (s.voided r) r hfind k).trans (if_neg hk)
      · exact (GrantStore.find_move _ _ (s.voided r) r hfind k).trans (if_neg hk)
    | purge => exact (GrantStore.find_free _ r k).trans (if_neg hk)
    | extend =>
      simp only [State.jobAction]
      by_cases hx : r.Extends
      · rw [s.extendRecord_of_extends r hx]
        exact (GrantStore.find_move _ _ { r with place := .prompt } r hfind k).trans (if_neg hk)
      · rw [s.extendRecord_of_not_extends r hx]

/-- A clamped ring record under EXTEND: it moves to the prompt tail (R44). -/
theorem State.move_prompt_of_extends (h : r.Extends) :
    let g := s.store.move r.place { r with place := .prompt }
    g.find r.key = some { r with place := .prompt } ∧ g.prompt = s.store.prompt ++ [r.key] ∧
    g.ring = s.store.ring.erase r.key ∧ g.revoking = s.store.revoking := by
  obtain ⟨hring, -⟩ := h
  have hprompt := hw.erase_prompt hr (by simp [hring])
  have hrevoking := hw.erase_revoking hr (by simp [hring])
  refine ⟨(GrantStore.find_move _ _ { r with place := .prompt } r (hw.find_key hr) r.key).trans (if_pos rfl), ?_⟩
  rw [hw.move_eq hr { r with place := .prompt } rfl]
  simp [GrantStore.enlist, hprompt, hrevoking]

/-- A record under PURGE: it is freed (R34, R45). -/
theorem State.purgeRecord_spec :
    let g := (s.purgeRecord r).2.store
    g.find r.key = none ∧ g.records.length + 1 = s.store.records.length ∧
    g.prompt = s.store.prompt.erase r.key ∧ g.ring = s.store.ring.erase r.key ∧
    g.revoking = s.store.revoking.erase r.key ∧
    g.highArmed = (s.store.highArmed || decide (g.records.length = 51999)) := by
  intro g
  have hg : g = s.store.free r := rfl
  refine ⟨(GrantStore.find_free _ r r.key).trans (if_pos rfl), ?_⟩
  rw [hg, hw.free_eq hr]
  have hlength := List.length_erase_of_mem hr
  have hpos := List.length_pos_of_mem hr
  exact ⟨by dsimp only; omega, rfl, rfl, rfl, rfl⟩

/-- A record under VOID: without a slot it owes its copies, in its place if it stands in the revocation queue, and from the
tail of that queue otherwise (R46). -/
theorem State.voidRecord_spec :
    let g := (s.voidRecord r).2.store
    g.find r.key = some (s.voided r) ∧ g.prompt = s.store.prompt.erase r.key ∧ g.ring = s.store.ring.erase r.key ∧
    g.revoking =
      if r.place.listName = .revoking then s.store.revoking else s.store.revoking ++ [r.key] := by
  have hfind := hw.find_key hr
  simp only [s.voidRecord_eq r, State.withStore_store]
  split
  next hplace =>
    have hprompt := hw.erase_prompt hr (by simp [hplace])
    have hring := hw.erase_ring hr (by simp [hplace])
    exact ⟨(GrantStore.find_update _ (s.voided r) r hfind r.key).trans (if_pos rfl), hprompt.symm, hring.symm, rfl⟩
  next hplace =>
    have hrevoking := hw.erase_revoking hr hplace
    refine ⟨(GrantStore.find_move _ _ (s.voided r) r hfind r.key).trans (if_pos rfl), ?_⟩
    rw [hw.move_eq hr (s.voided r) rfl]
    simp [State.voided, GrantStore.enlist, hrevoking]

end

/-! ### The next job (R115) -/

theorem Walker.startNext_eq (w : Walker) :
    w.startNext =
      match w.pendingVoid, w.pendingPurge, w.pendingExtend with
      | some v, p, e => ⟨some ⟨.void, v, none, 0⟩, none, p, e⟩
      | none, some p, e => ⟨some ⟨.purge, p, none, 0⟩, none, none, e⟩
      | none, none, some e => ⟨some ⟨.extend, e, none, 0⟩, none, none, none⟩
      | none, none, none => ⟨none, none, none, none⟩ := by
  obtain ⟨running, _ | v, _ | p, _ | e⟩ := w <;> rfl

/-! ### The statement -/

/-- Settles O52: the walk finds the record of least key beyond its position, and the action on it is that of the job's kind
on a store in which each record stands in one list; past the last key the next pending job starts. -/
theorem sweepVisitsApplyTheJob : Obligations.SweepVisitsApplyTheJob := by
  intro s j hrun hjob ⟨hw, _⟩ beyond
  have hexec : exec .sweepVisit s = .next s.visit := (exec_sweepVisit s).trans (s.live_running _ hrun)
  refine ⟨fun r hr hbeyond hleast => ?_, fun hnone => ?_⟩
  · have hafter := GrantStore.after_eq_some hw hr hbeyond hleast
    rw [s.visit_record j r hjob hafter] at hexec
    refine ⟨_, hexec, ?_, s.sweepAction_find_ne hw hr j, ?_, ?_, ?_, ?_⟩
    · exact congrArg (State.withWalker · _) (s.sweepAction_frame j r)
    · intro halone
      rw [s.sweepAction_of_alone j r halone]
      exact ⟨rfl, rfl, rfl⟩
    · rintro ⟨hset, hkind, hextends⟩
      have haction : s.sweepAction j r = _ :=
        (s.sweepAction_of_set j r hset hkind).trans (s.extendRecord_of_extends r hextends)
      obtain ⟨hfind, hprompt, hring, hrevoking⟩ := State.move_prompt_of_extends hw hr hextends
      rw [haction]
      exact ⟨hfind, hprompt, hring, hrevoking, rfl, rfl⟩
    · intro hset hkind
      have haction : s.sweepAction j r = s.purgeRecord r := s.sweepAction_of_set j r hset hkind
      obtain ⟨hfind, hlength, hprompt, hring, hrevoking, harmed⟩ := State.purgeRecord_spec hw hr
      rw [haction]
      exact ⟨hfind, hlength, hprompt, hring, hrevoking, harmed, rfl, rfl⟩
    · intro hset hkind
      have haction : s.sweepAction j r = s.voidRecord r := s.sweepAction_of_set j r hset hkind
      obtain ⟨hfind, hprompt, hring, hrevoking⟩ := State.voidRecord_spec hw hr
      rw [haction]
      exact ⟨hfind, hprompt, hring, hrevoking, by simp, by rw [s.voidRecord_eq r]; rfl⟩
  · have hvisit := s.visit_end j hjob (GrantStore.after_eq_none hnone)
    rw [s.walker.startNext_eq] at hvisit
    exact hexec.trans (congrArg Host.Outcome.next hvisit)

end Sys2Proof.Machine
end

section
/-! PROOF. The refusals of PURCHASE: the address, the product, the sale states and the blackout (R51 to R54). -/

namespace Sys2Proof.Machine

/-! ### Dispatch -/

theorem exec_purchase (h : Hdr) (addr : BitVec 32) (product : BitVec 8) (s : State) :
    exec (.purchase h addr product) s = serve (.purchase h addr product) (purchaseRule addr product) s := rfl

/-- PURCHASE, KIND 0x11, is served in SERVING and MAINTENANCE (R176). -/
theorem modeServes_purchase {m : Mode} (hm : m = .serving ∨ m = .maintenance) : modeServes m 0x11 = true := by
  obtain rfl | rfl := hm <;> decide

/-- PURCHASE on a ready part replies with the outcome of its test (R55). -/
theorem exec_purchase_ready (h : Hdr) (addr : BitVec 32) (product : BitVec 8) (s t : State) (o : PurchaseOutcome)
    (hready : s.ready) (hmode : s.sup.mode = .serving ∨ s.sup.mode = .maintenance) (hlen : h.len = 7)
    (htest : (s.taken (.purchase h addr product)).purchaseTest addr product = (o, t)) :
    exec (.purchase h addr product) s =
      .next (t.answer (.purchase h addr product) o.status (.purchase o.partly o.region o.list)) :=
  (exec_purchase h addr product s).trans
    (serve_reply _ _ s t _ _ hready (hm := modeServes_purchase hmode) (hl := by simp [lengthOk, hlen])
      (hrule := by rw [purchaseRule, htest]))

/-! ### The fields and the region (R25, R51) -/

theorem addressOk_iff (addr : BitVec 32) (product : BitVec 8) :
    addressOk addr product = true ↔ addr.toNat < 2 ^ 26 ∧ product.toNat < 48 := by
  simp [addressOk]

/-- Taking a command leaves the region of every block. -/
@[simp] theorem State.taken_regionOf (s : State) (c : Instr) (block : Nat) :
    (s.taken c).regionOf block = s.regionOf block := by
  simp [State.regionOf_eq]

/-! ### The sale states of the admitted events (R52, R53) -/

/-- The event is sellable at second `now`: in ON_SALE, and in LIVE until L seconds after the actual kickoff (R52). -/
def EventEntry.OnSale (e : EventEntry) (now : Nat) : Prop :=
  e.state = .onSale ∨ (e.state = .live ∧ ∃ k, e.actualKickoff = some k ∧ now < k + e.late)

/-- The event will not sell again (R53). -/
def EventEntry.Past (e : EventEntry) : Prop := e.state = .ended ∨ e.state = .closed ∨ e.state = .void

theorem EventEntry.sellable_iff (e : EventEntry) (now : Nat) : e.sellable now = true ↔ e.OnSale now := by
  unfold EventEntry.sellable EventEntry.OnSale
  cases e.state with
  | live => cases e.actualKickoff <;> simp
  | _ => simp

theorem EventEntry.Past.not_onSale {e : EventEntry} (h : e.Past) (now : Nat) : ¬e.OnSale now := by
  rintro (hs | ⟨hs, -⟩) <;> simp [EventEntry.Past, hs] at h

theorem State.mem_sellableOf (s : State) (events : List Nat) (e : EventEntry) :
    e ∈ s.sellableOf events ↔ (∃ i ∈ events, s.event? i = some e) ∧ e.OnSale s.clock.seconds := by
  rw [State.sellableOf, List.mem_filter, List.mem_filterMap, EventEntry.sellable_iff]

theorem State.sellableOf_eq_nil (s : State) (events : List Nat)
    (h : ∀ i ∈ events, ∀ e, s.event? i = some e → ¬e.OnSale s.clock.seconds) : s.sellableOf events = [] := by
  refine List.eq_nil_iff_forall_not_mem.mpr fun e he => ?_
  obtain ⟨⟨i, hi, hentry⟩, hsale⟩ := (s.mem_sellableOf events e).mp he
  exact h i hi e hentry hsale

theorem State.sellingOver_iff (s : State) (events : List Nat) :
    s.sellingOver events = true ↔ ∀ i ∈ events, ∃ e, s.event? i = some e ∧ e.Past := by
  rw [State.sellingOver, List.all_eq_true]
  refine forall₂_congr fun i _ => ?_
  cases s.event? i <;> simp [EventEntry.Past, or_assoc]

/-! ### The refusals of the purchase test (R51 to R54) -/

section
variable (s : State) (addr : BitVec 32) (product : BitVec 8)

theorem State.purchaseTest_of_not_fields (h : ¬(addr.toNat < 2 ^ 26 ∧ product.toNat < 48)) :
    s.purchaseTest addr product = (.plain .badField, s) := by
  rw [← addressOk_iff, Bool.not_eq_true] at h
  simp [State.purchaseTest, h]

variable (hfields : addr.toNat < 2 ^ 26 ∧ product.toNat < 48)
include hfields

theorem State.purchaseTest_of_no_product (hproduct : s.product? product.toNat = none) :
    s.purchaseTest addr product = (.plain .noProduct, s) := by
  simp [State.purchaseTest, (addressOk_iff addr product).mpr hfields, hproduct]

variable (d : ProductDef) (hproduct : s.product? product.toNat = some d)
include hproduct

/-- With no sellable event the test ends, by whether the selling is over for good (R53). -/
theorem State.purchaseTest_of_none_sellable (hnone : s.sellableOf d.events = []) :
    s.purchaseTest addr product = (.plain (if s.sellingOver d.events then .closed else .notOnSale), s) := by
  simp [State.purchaseTest, (addressOk_iff addr product).mpr hfields, hproduct, hnone]

/-- Every admitted event is ENDED, CLOSED or VOID (R53). -/
theorem State.purchaseTest_of_closed (hpast : ∀ i ∈ d.events, ∃ e, s.event? i = some e ∧ e.Past) :
    s.purchaseTest addr product = (.plain .closed, s) := by
  have hnone : s.sellableOf d.events = [] := s.sellableOf_eq_nil d.events fun i hi e he => by
    obtain ⟨e', he', hpast'⟩ := hpast i hi
    obtain rfl : e' = e := Option.some.inj (he'.symm.trans he)
    exact hpast'.not_onSale _
  rw [s.purchaseTest_of_none_sellable addr product hfields d hproduct hnone,
    if_pos ((s.sellingOver_iff d.events).mpr hpast)]

/-- No admitted event is sellable, and one of them may yet be (R53). -/
theorem State.purchaseTest_of_not_onSale
    (hnone : ∀ i ∈ d.events, ∀ e, s.event? i = some e → ¬e.OnSale s.clock.seconds)
    (hleft : ∃ i ∈ d.events, ∀ e, s.event? i = some e → ¬e.Past) :
    s.purchaseTest addr product = (.plain .notOnSale, s) := by
  have hover : ¬s.sellingOver d.events = true := fun hover => by
    obtain ⟨i, hi, hi'⟩ := hleft
    obtain ⟨e, he, hpast⟩ := (s.sellingOver_iff d.events).mp hover i hi
    exact hi' e he hpast
  rw [s.purchaseTest_of_none_sellable addr product hfields d hproduct (s.sellableOf_eq_nil d.events hnone), if_neg hover]

/-- The region is blacked out for every sellable event (R54). -/
theorem State.purchaseTest_of_blackedOut (hsome : ∃ i ∈ d.events, ∃ e, s.event? i = some e ∧ e.OnSale s.clock.seconds)
    (hblack : ∀ i ∈ d.events, ∀ e, s.event? i = some e → e.OnSale s.clock.seconds →
      e.blackout.getLsbD (s.regionOf (addr.toNat / 64)) = true) :
    s.purchaseTest addr product = (⟨.blackedOut, false, some (s.regionOf (addr.toNat / 64)), none⟩, s) := by
  have hsellable : s.sellableOf d.events ≠ [] := by
    obtain ⟨i, hi, e, he, hsale⟩ := hsome
    exact List.ne_nil_of_mem ((s.mem_sellableOf d.events e).mpr ⟨⟨i, hi, he⟩, hsale⟩)
  have hall : (s.sellableOf d.events).countP (fun e => e.blackout.getLsbD (s.regionOf (addr.toNat / 64))) =
      (s.sellableOf d.events).length := by
    refine List.countP_eq_length.mpr fun e he => ?_
    obtain ⟨⟨i, hi, hentry⟩, hsale⟩ := (s.mem_sellableOf d.events e).mp he
    exact hblack i hi e hentry hsale
  simp [State.purchaseTest, (addressOk_iff addr product).mpr hfields, hproduct, hsellable, blockOf_eq_div addr hfields.1,
    hall]

end

/-! ### The statement -/

/-- Settles O34: each refusal by its case of the purchase test on the command taken, which reads the tables, the clock and
the regions alone. -/
theorem purchaseRefusalsChangeNothing : Obligations.PurchaseRefusalsChangeNothing := by
  intro h addr product s hready hmode hlen c u plain fields onSale past
  have replies (o : PurchaseOutcome) := exec_purchase_ready h addr product s u o hready hmode hlen
  have hproducts : u.product? = s.product? := by simp [u]
  have hevents : u.event? = s.event? := by simp [u]
  have hseconds : u.clock.seconds = s.clock.seconds := by simp [u]
  have hregion : u.regionOf (addr.toNat / 64) = s.regionOf (addr.toNat / 64) := s.taken_regionOf c _
  refine ⟨fun hf => replies _ (u.purchaseTest_of_not_fields addr product hf), fun hf hnone => ?_,
    fun d hf hd => ?_⟩
  · rw [← hproducts] at hnone
    exact replies _ (u.purchaseTest_of_no_product addr product hf hnone)
  · intro region
    rw [← hproducts] at hd
    simp only [onSale, region, ← hevents, ← hseconds, ← hregion]
    exact ⟨fun hpast => replies _ (u.purchaseTest_of_closed addr product hf d hd hpast),
      fun hnone hleft => replies _ (u.purchaseTest_of_not_onSale addr product hf d hd hnone hleft),
      fun hsome hblack => replies _ (u.purchaseTest_of_blackedOut addr product hf d hd hsome hblack)⟩

end Sys2Proof.Machine
end

section
/-! PROOF. SET of the configured window: W_eff, the guard and the stretched condition (R81, R82, R165). -/

namespace Sys2Proof.Machine

/-! ### SET of a setting with a range (R165) -/

theorem exec_set (h : Hdr) (id : BitVec 8) (value : BitVec 32) (s : State) :
    exec (.set h id value) s = serve (.set h id value) (setRule id value) s := rfl

/-- SET, KIND 0x01, is served in CONFIGURING, SERVING and MAINTENANCE (R165, R176). -/
theorem modeServes_set {m : Mode} (hm : settingModes m) : modeServes m 0x01 = true := by
  obtain rfl | rfl | rfl := hm <;> decide

/-- SET of a setting with a range on a ready part: the setting takes the value clamped to the range, and the status says
whether the value or the guard was clamped (R82, R165). -/
theorem exec_set_range_ready (h : Hdr) (id : BitVec 8) (value : BitVec 32) (s : State) (lo hi : Nat) (hready : s.ready)
    (hmode : settingModes s.sup.mode) (hlen : h.len = 7)
    (hrange : settingAdmits s.settings.current id.toNat = some (.range lo hi)) :
    let c := Instr.set h id value
    let w := clampTo lo hi value.toNat
    let clamped := w != value.toNat || s.settings.current.guardClamped id.toNat w
    exec c s = .next
      (((s.taken c).takeSetting id.toNat w).answer c (if clamped then .doneClamped else .done) (.settingWritten id w)) := by
  intro c w clamped
  have hsettings : (s.taken c).settings = s.settings := by simp
  exact serve_reply c _ s _ _ _ hready (modeServes_set hmode) (by simp [c, lengthOk, hlen])
    (by simp only [setRule, hsettings, hrange, w, clamped])

/-! ### The stretched condition (R81) -/

theorem State.withPacing_of_stretched (s : State) (b : Bool) (h : s.pacing.stretched = b) :
    s.withPacing { s.pacing with stretched := b } = s := by
  subst h; rfl

/-- After the test the stretched condition says whether W_eff is over W_cfg, and a change of it has posted its notice
(R81). -/
theorem State.testStretched_eq (s : State) :
    let wcfg := s.settings.current.windowConfigured
    let t := s.withPacing { s.pacing with stretched := decide (wcfg < s.pacing.window) }
    s.testStretched =
      if wcfg < s.pacing.window ∧ s.pacing.stretched = false then t.post .windowStretched .none (.quantity s.pacing.window)
      else if ¬wcfg < s.pacing.window ∧ s.pacing.stretched = true then t.post .windowRelaxed .none (.quantity wcfg)
      else t := by
  intro wcfg t
  by_cases hover : wcfg < s.pacing.window <;> cases hwas : s.pacing.stretched
  case pos.false => simp [State.testStretched, t, wcfg, hover, hwas]
  case pos.true => simp [State.testStretched, t, wcfg, hover, hwas, s.withPacing_of_stretched true hwas]
  case neg.false => simp [State.testStretched, t, wcfg, hover, hwas, s.withPacing_of_stretched false hwas]
  case neg.true => simp [State.testStretched, t, wcfg, hover, hwas]

/-! ### W_cfg (R82) -/

/-- A SET of W_cfg writes it and the clamped guard, raises W_eff to it, and tests the stretched condition (R81, R82). -/
theorem State.setWindow_eq (s : State) (w : Nat) :
    let old := s.settings.current
    let window := max s.pacing.window w
    let t := (s.withSettings
      { s.settings with current := { old with windowConfigured := w, guard := min old.guard (w / 4) } }).withPacing
      { s.pacing with window := window, stretched := decide (w < window) }
    s.setWindow w =
      if w < window ∧ s.pacing.stretched = false then t.post .windowStretched .none (.quantity window)
      else if ¬w < window ∧ s.pacing.stretched = true then t.post .windowRelaxed .none (.quantity w)
      else t :=
  State.testStretched_eq _

/-- W_cfg is the setting whose write clamps the guard (R82). -/
theorem Settings.guardClamped_window (c : Settings) (w : Nat) : c.guardClamped 0x09 w = decide (w / 4 < c.guard) := rfl

/-! ### The statement -/

/-- Settles O6: W_cfg is a setting with a range, and taking it is `setWindow` on the command taken, whose settings and
pacing are those of the ready part. -/
theorem setOfTheWindowActsOnPacing : Obligations.SetOfTheWindowActsOnPacing := by
  intro h value s hready hmode hlen c w window old clamped t u
  have hsettings : (s.taken c).settings = s.settings := by simp
  have hpacing : (s.taken c).pacing = s.pacing := by simp
  have hstate : (s.taken c).takeSetting 0x09 w = u := by
    refine ((s.taken c).setWindow_eq w).trans ?_
    rw [hsettings, hpacing]
  have hclamped : (w != value.toNat || old.guardClamped 0x09 w) = clamped := by
    rw [Settings.guardClamped_window, Bool.eq_iff_iff]
    simp [clamped, old]
  rw [← hstate, ← hclamped]
  exact exec_set_range_ready h 0x09 value s 10 600 hready hmode hlen rfl

end Sys2Proof.Machine
end

section
/-! PROOF. One classification of the rows, for the statements about every command and every step: a command of the Order
Link is taken and served by its rule, a row of the block acts on a running part, a row of the pins on any. A condition that
settling, the rules and the rows keep is kept by every step. -/

namespace Sys2Proof.Machine

/-- A choice whose condition and outcomes are given in another form. -/
theorem ite_of_iff {α : Type} {p q : Prop} [Decidable p] [Decidable q] {x y x' y' : α} (h : p ↔ q) (hx : x = x') (hy : y = y') :
    (if p then x else y) = if q then x' else y' := by
  subst hx hy
  by_cases hq : q
  · rw [if_pos hq, if_pos (h.mpr hq)]
  · rw [if_neg hq, if_neg (mt h.mp hq)]

/-! ### The rows in three families -/

/-- The rule by which the Order Link serves a command; none for a KIND that names no command and for the rows that are no
command of the link (R174, R183). -/
def linkRule : Instr → Option (State → Answer)
  | .set _ id value => some (setRule id value)
  | .get _ id => some (getRule id)
  | .saveSettings _ => some saveRule
  | .clockSet _ seconds ms => some (clockSetRule seconds ms)
  | .clockAdvance _ n => some (clockAdvanceRule n)
  | .clockHold _ n => some (clockHoldRule n)
  | .regionRuleSet _ form idx pattern mask region => some (regionSetRule form idx pattern mask region)
  | .regionRuleClear _ _ idx => some (regionClearRule idx)
  | .event _ idx so k e late grace allow => some (eventRule idx so k e late grace allow)
  | .eventTimes _ idx so k e => some (eventTimesRule idx so k e)
  | .blackout _ idx regions => some (blackoutRule idx regions)
  | .productDefine _ form idx kind events => some (productDefineRule form idx kind events)
  | .productDrop _ _ idx => some (productDropRule idx)
  | .cueBind _ line ev action level debounce => some (cueBindRule line ev action level debounce)
  | .cueClearUnbind _ line form => some (cueUnbindRule line form)
  | .cueClearRelease _ line form => some (cueReleaseRule line form)
  | .keepalive _ part value => some (keepaliveRule part value)
  | .maintenanceEnter _ form => some (maintenanceEnterRule form)
  | .maintenanceExit _ _ => some fun s => plainReply .done (s.changeMode .serving)
  | .eventActionOpenSale _ idx action => some (eventActionRule .openSale idx action)
  | .eventActionKickoff _ idx action => some (eventActionRule .kickoff idx action)
  | .eventActionOvertime _ idx action => some (eventActionRule .overtime idx action)
  | .eventActionSuspend _ idx action => some (eventActionRule .suspend idx action)
  | .eventActionResume _ idx action => some (eventActionRule .resume idx action)
  | .eventActionFinish _ idx action => some (eventActionRule .finish idx action)
  | .eventActionVoid _ idx action => some (eventActionRule .void idx action)
  | .purchase _ addr product => some (purchaseRule addr product)
  | .cancel _ addr product => some (cancelRule addr product)
  | .batchOpen h op count => some (batchOpenRule h.tag op count)
  | .batchData _ items => some (batchDataRule items)
  | .batchEnd _ => some batchEndRule
  | .status _ => some fun s => (some (.done, .status s.report), s)
  | .showEvent _ idx => some (showEventRule idx)
  | .showProduct _ idx => some (showProductRule idx)
  | .showRecord _ block product => some (showRecordRule block product)
  | .showDecoder _ addr => some (showDecoderRule addr)
  | .notices _ => some noticesRule
  | .resetTables _ form => some (resetTablesRule form)
  | .resetFull _ _ => some fun s => s.orderReset .full
  | _ => none

/-- What a row that is no command of the link does to a running part. -/
def ownRow : Instr → Option (State → State)
  | .saveSettingsWriteComplete => some State.completeWrite
  | .batchItem => some State.takeItem
  | .resetTablesActs => some State.resetTablesActs
  | .resetFullActs => some State.resetFullActs
  | .configuringWindowExpiry => some State.windowExpired
  | .frameCompletes b | .lenOutOfRange b | .byteReceived b => some fun s => s.receiveByte b
  | .byteGapExpiry => some State.gapPassed
  | .huntArmed => some State.armHunt
  | .replySent => some State.sendDone
  | .batchIdleTimeout => some fun s => s.withLink (s.link.closeUnsolicited .timedOut)
  | .msRollover => some State.rollover
  | .markFiring => some State.markFiring
  | .windowStep => some State.windowStep
  | .announceIntervalCheck => some State.announceCheck
  | .rateInterval => some fun s => s.withPacing (s.pacing.interval s.settings.current.refreshShare)
  | .pulse => some State.takePulse
  | .lossTimerExpiry => some State.loseReference
  | .holdExpires => some fun s => s.withClock { s.clock with hold := 0 }
  | .sweepVisit => some State.visit
  | .slotGrant us => some fun s => if s.port.answers us then s.answerGrant us else s
  | .starvationTimerExpiry => some State.starve
  | .debounceExpiry line ms => some fun s => s.acceptEdge line ms
  | .coolingTimerExpiry line => some fun s => s.endCooling line
  | .settlingTimerExpiry => some State.settlingDone
  | .periodTimerExpiry => some State.periodElapsed
  | .quietTimerExpiry => some State.quietElapsed
  | .frameClock => some fun s => s.withPort s.port.clock
  | _ => none

/-- What a row of the pins and of the supply does to the part, whether it runs or not. -/
def pinRow : Instr → Option (State → State)
  | .powerOn p q => some fun s => s.release p q
  | .resetLineAsserted => some State.holdInReset
  | .resetLine p q => some fun s => if s.run = .unpowered then s else s.release p q
  | .cuePinChange line level => some fun s => s.pinChange line level
  | .powerLoss => some State.losePower
  | _ => none

/-- The state in which a command has been taken; BATCH DATA has restarted the idle timer of an open batch (R67, R174). -/
def State.accept (s : State) (c : Instr) : State :=
  match c with
  | .batchData .. => (s.begin c).restartIdle
  | _ => s.begin c

theorem exec_of_linkRule {c : Instr} {rule : State → Answer} (h : linkRule c = some rule) (s : State) :
    exec c s = s.live fun s => (s.accept c).serveTaken c rule := by
  cases c <;> cases h <;> rfl

theorem exec_of_ownRow {c : Instr} {f : State → State} (h : ownRow c = some f) (s : State) : exec c s = s.live f := by
  cases c <;> cases h <;> rfl

theorem exec_of_pinRow {c : Instr} {f : State → State} (h : pinRow c = some f) (s : State) : exec c s = .next (f s) := by
  cases c <;> cases h <;> rfl

theorem exec_unknownKind (h : Hdr) (kind : BitVec 8) (s : State) :
    exec (.unknownKind h kind) s =
      s.live fun s => (s.begin (.unknownKind h kind)).reply 0xFF h.tag .unknownKind .none := rfl

/-- Every row is of one of the families. -/
theorem row_family (c : Instr) :
    (∃ rule, linkRule c = some rule) ∨ (∃ f, ownRow c = some f) ∨ (∃ f, pinRow c = some f) ∨
    ∃ h kind, c = .unknownKind h kind := by
  cases c
  case unknownKind h kind => exact .inr (.inr (.inr ⟨h, kind, rfl⟩))
  all_goals
    simp only [linkRule, ownRow, pinRow, Option.some.injEq, exists_eq', reduceCtorEq, exists_false, true_or, or_true]

/-! ### Settings that the shared operations keep -/

@[simp] theorem State.issueChallenge_settings (s : State) :
    s.issueChallenge.settings =
      { s.settings with inForce := { s.settings.inForce with partsCount := s.settings.current.partsCount } } := rfl

@[simp] theorem State.startPeriod_settings (s : State) : s.startPeriod.settings = periodSettings s.settings := rfl

@[simp] theorem periodSettings_keeps (x : SettingsStore) :
    (periodSettings x).current = x.current ∧ (periodSettings x).stored = x.stored ∧
    (periodSettings x).writing = x.writing ∧ (periodSettings x).inForce.partsCount = x.inForce.partsCount :=
  ⟨rfl, rfl, rfl, rfl⟩

@[simp] theorem State.completeKeepalive_settings (s : State) :
    s.completeKeepalive.settings = periodSettings
      { s.settings with inForce := { s.settings.inForce with partsCount := s.settings.current.partsCount } } := rfl

/-- A counted fault takes the settings of a period into force, and no others (R153; log 21). -/
@[simp] theorem State.countFault_settings (s : State) (cause : FaultCause) :
    (s.countFault cause).settings = periodSettings s.settings := by
  unfold State.countFault
  dsimp only
  split <;> simp

@[simp] theorem State.changeMode_settings (s : State) (m : Mode) :
    (s.changeMode m).settings = periodSettings s.settings := rfl

theorem State.foldl_checkInterval_eq (l : List Nat) (s : State) :
    ∃ a, l.foldl State.checkInterval s = s.withArbiter a := by
  have hone (u : State) (i : Nat) : ∃ a, u.checkInterval i = u.withArbiter a := by
    unfold State.checkInterval State.requestAnnouncement
    (repeat' split) <;> exact ⟨_, rfl⟩
  induction l generalizing s with
  | nil => exact ⟨s.arbiter, rfl⟩
  | cons i l ih =>
    obtain ⟨a, ha⟩ := hone s i
    obtain ⟨b, hb⟩ := ih (s.checkInterval i)
    exact ⟨b, by rw [List.foldl_cons, hb, ha]; rfl⟩

/-- The announce check changes the second marks, the announce interval in force and the Arbiter alone (R107, R168). -/
theorem State.announceCheck_eq (s : State) :
    ∃ d x a, s.announceCheck =
      ((s.withDue d).withSettings
        { s.settings with inForce := { s.settings.inForce with announceInterval := x } }).withArbiter a := by
  unfold State.announceCheck
  split
  · exact ⟨s.due, s.settings.inForce.announceInterval, s.arbiter, rfl⟩
  · unfold State.announceMark
    obtain ⟨a, ha⟩ := State.foldl_checkInterval_eq (List.range 32)
      (((s.withDue { s.due with announce := s.due.announce - 1 }).withArbiter { s.arbiter with timePending := true }).withSettings
        { s.settings with
          inForce := { s.settings.inForce with announceInterval := s.settings.current.announceInterval } })
    exact ⟨_, _, a, ha⟩

/-! ### A condition that settling keeps (R174) -/

/-- A condition that every step of settling keeps: it does not read the link but for the error count and a RESET that is
due, and the tests of batch items, the completion of a write, the ATTN check and a RESET keep it. -/
structure KeptBySettling (P : State → Prop) : Prop where
  link : ∀ s l, l.errors = s.link.errors → l.resetDue = s.link.resetDue → P s → P (s.withLink l)
  item : ∀ s cancels x, P s → P (s.itemTest cancels x).2
  write : ∀ s snapshot left, s.settings.writing = some (snapshot, left) → P s →
    P (s.withSettings { s.settings with stored := some snapshot, writing := none })
  attn : ∀ s, P s → P s.attnCheck
  reset : ∀ s form, s.link.resetDue = some form → P s → P (s.resetActs form)

@[simp] theorem Link.pump_errors (l : Link) : l.pump.errors = l.errors := by
  unfold Link.pump
  (repeat' split) <;> rfl

@[simp] theorem Link.pump_resetDue (l : Link) : l.pump.resetDue = l.resetDue := by
  unfold Link.pump
  (repeat' split) <;> rfl

@[simp] theorem Link.closeUnsolicited_errors (l : Link) (flag : SummaryFlag) :
    (l.closeUnsolicited flag).errors = l.errors := by
  unfold Link.closeUnsolicited
  split
  · exact Link.pump_errors _
  · rfl

@[simp] theorem Link.closeUnsolicited_resetDue (l : Link) (flag : SummaryFlag) :
    (l.closeUnsolicited flag).resetDue = l.resetDue := by
  unfold Link.closeUnsolicited
  split
  · exact Link.pump_resetDue _
  · rfl

section
variable {P : State → Prop} (hP : KeptBySettling P)
include hP

theorem KeptBySettling.takeItem (s : State) (h : P s) : P s.takeItem := by
  unfold State.takeItem
  split
  next kind tag x rest _ =>
    split
    next b _ =>
      dsimp only
      split
      · exact hP.link _ _ rfl rfl (hP.item s b.cancels x h)
      · exact hP.link _ _ (by simp) (by simp) (hP.item s b.cancels x h)
    next => exact hP.link _ _ (by simp) (by simp) h
  next => exact hP.link _ _ (by simp) (by simp) h
  next => exact h

theorem KeptBySettling.completeWrite (s : State) (h : P s) : P s.completeWrite := by
  unfold State.completeWrite
  split
  next snapshot left hw =>
    have hwritten := hP.write s snapshot left hw h
    dsimp only
    split
    · exact hP.link _ _ rfl rfl hwritten
    · exact hwritten
  next => exact h

theorem KeptBySettling.sendDone (s : State) (h : P s) : P s.sendDone := by
  unfold State.sendDone
  split
  next => exact h
  next o rest _ =>
    dsimp only
    split
    · exact hP.attn _ (hP.link _ _ (by simp) (by simp) h)
    · exact hP.link _ _ (by simp) (by simp) h

theorem KeptBySettling.linkStep (s t : State) (hstep : s.linkStep = some t) (h : P s) : P t := by
  unfold State.linkStep at hstep
  split at hstep
  next =>
    cases hstep
    exact hP.takeItem s h
  next =>
    cases hstep
    split
    · exact hP.completeWrite s h
    · exact hP.link _ _ rfl rfl h
  next =>
    cases hstep
    split
    · exact hP.link _ _ rfl rfl h
    · exact hP.sendDone s h
  next =>
    split at hstep
    · cases hstep
      exact hP.sendDone s h
    · split at hstep
      next form hdue =>
        cases hstep
        exact hP.reset s form hdue h
      next =>
        split at hstep <;> cases hstep
        exact hP.link _ _ (by simp) (by simp) h

theorem KeptBySettling.settleFor (n : Nat) (s : State) (h : P s) : P (State.settleFor n s) := by
  induction n generalizing s with
  | zero => exact h
  | succ n ih =>
    unfold State.settleFor
    split
    next t hstep => exact ih t (hP.linkStep s t hstep h)
    next => exact h

theorem KeptBySettling.takeFrame (s : State) (c : Instr) (h : P s) : P (s.takeFrame c) := by
  unfold State.takeFrame
  (repeat' split)
  · exact hP.link _ _ rfl rfl h
  · exact h
  · exact h

theorem KeptBySettling.begin (s : State) (c : Instr) (h : P s) : P (s.begin c) :=
  hP.link _ _ rfl rfl (hP.takeFrame _ c (hP.settleFor 64 s h))

theorem KeptBySettling.accept (s : State) (c : Instr) (h : P s) : P (s.accept c) := by
  unfold State.accept
  split
  · exact hP.link _ _ rfl rfl (hP.begin s _ h)
  · exact hP.begin s c h

end

/-- A running part still runs when it has settled and taken a command (R174). -/
theorem State.accept_run (s : State) (c : Instr) (h : s.run = .running) : (s.accept c).run = .running := by
  obtain ⟨-, -, -, -, hruns⟩ := State.settleFor_keeps 64 s
  have hsettle : s.settle.run = .running := hruns h
  have hbegin : (s.begin c).run = .running := by simpa [State.begin] using hsettle
  unfold State.accept
  split
  · simpa using hbegin
  · exact hbegin

/-! ### A condition that commands and steps keep -/

/-- What a command makes of a condition `Pre` that settling keeps: `Post`, where its rule or row does so, and where `Post`
does not read the transmitter. -/
structure Leads (Pre Post : State → Prop) (c : Instr) : Prop where
  settling : KeptBySettling Pre
  weaken : ∀ s, Pre s → Post s
  reply : ∀ s k g st f, Post s → Post (s.reply k g st f)
  rule : ∀ rule, linkRule c = some rule → ∀ s, s.run = .running → servedIn s.sup.mode c = true → Pre s → Post (rule s).2
  own : ∀ f, ownRow c = some f → ∀ s, s.run = .running → Pre s → Post (f s)
  pin : ∀ f, pinRow c = some f → ∀ s, Pre s → Post (f s)

theorem State.live_next {s t : State} {f : State → State} (h : s.live f = .next t) :
    (s.run = .running ∧ t = f s) ∨ t = s := by
  unfold State.live at h
  split at h <;> cases h
  next hrun => exact .inl ⟨hrun, rfl⟩
  next => exact .inr rfl

/-- Serving a taken command refuses it, or its rule acts, the command being served in the mode; then the reply goes out. -/
theorem State.serveTaken_spec (s : State) (c : Instr) (rule : State → Answer) :
    (∃ k g st f, s.serveTaken c rule = s.reply k g st f) ∨
    (servedIn s.sup.mode c = true ∧ lengthOk c = true ∧
      ((∃ k g st f, s.serveTaken c rule = (rule s).2.reply k g st f) ∨ s.serveTaken c rule = (rule s).2)) := by
  unfold State.serveTaken
  split
  · exact .inl ⟨_, _, _, _, rfl⟩
  next hserved =>
    split
    · exact .inl ⟨_, _, _, _, rfl⟩
    next hlength =>
      refine .inr ⟨by simpa using hserved, by simpa using hlength, ?_⟩
      split
      next st f t h => exact .inl ⟨_, _, st, f, by rw [h]⟩
      next t h => exact .inr (by rw [h])

theorem Leads.exec {Pre Post : State → Prop} {c : Instr} (hc : Leads Pre Post c) {s t : State}
    (hexec : exec c s = .next t) (h : Pre s) : Post t := by
  rcases row_family c with ⟨rule, hrule⟩ | ⟨f, hf⟩ | ⟨f, hf⟩ | ⟨hd, kind, rfl⟩
  · rw [exec_of_linkRule hrule] at hexec
    rcases State.live_next hexec with ⟨hrun, rfl⟩ | rfl
    · have htaken := hc.settling.accept s c h
      rcases (s.accept c).serveTaken_spec c rule with ⟨k, g, st, f, heq⟩ | ⟨hserved, -, hacts⟩
      · rw [heq]
        exact hc.reply _ _ _ _ _ (hc.weaken _ htaken)
      · have hpost := hc.rule rule hrule _ (s.accept_run c hrun) hserved htaken
        rcases hacts with ⟨k, g, st, f, heq⟩ | heq <;> rw [heq]
        · exact hc.reply _ _ _ _ _ hpost
        · exact hpost
    · exact hc.weaken _ h
  · rw [exec_of_ownRow hf] at hexec
    rcases State.live_next hexec with ⟨hrun, rfl⟩ | rfl
    · exact hc.own f hf s hrun h
    · exact hc.weaken _ h
  · rw [exec_of_pinRow hf] at hexec
    cases hexec
    exact hc.pin f hf s h
  · rw [exec_unknownKind] at hexec
    rcases State.live_next hexec with ⟨-, rfl⟩ | rfl
    · exact hc.reply _ _ _ _ _ (hc.weaken _ (hc.settling.begin s _ h))
    · exact hc.weaken _ h

/-- A condition that every step keeps. -/
structure Invariant (P : State → Prop) : Prop where
  command : ∀ c, Leads P P c
  queue : ∀ s pending, P s → P (s.withPending pending)
  choice : ∀ s n, P s → P { s with choices := n }
  tick : ∀ s, s.run = .running → P s → P s.tick

theorem Invariant.step {P : State → Prop} (hP : Invariant P) {s t : State} (hstep : step s = .next t) (h : P s) : P t := by
  unfold Machine.step at hstep
  split at hstep
  next =>
    cases hstep
    rcases State.idle_cases (s := s) rfl with ⟨-, heq⟩ | ⟨hrun, -, heq⟩ | ⟨-, heq | heq, -⟩ <;> rw [heq]
    · exact h
    · exact hP.tick s hrun h
    · exact hP.queue _ _ h
    · exact hP.queue _ _ (hP.choice _ _ h)
  next c rest _ => exact (hP.command c).exec hstep (hP.queue _ _ h)

end Sys2Proof.Machine
end

section
/-! PROOF. The Notice Queue: every step keeps it within 64 notices of levels 0 to 6, and ATTN asserted while it holds an
urgent one (R179, R181). -/

namespace Sys2Proof.Machine

/-! ### The operations that post -/

/-- The condition reads the queue and the ATTN threshold alone. -/
theorem State.NoticesOk.congr {s t : State} (h : s.NoticesOk) (hq : t.notices = s.notices)
    (hc : t.settings.current.attnThreshold = s.settings.current.attnThreshold) : t.NoticesOk := by
  unfold State.NoticesOk
  rwa [hq, hc]

theorem State.NoticesOk.post {s : State} (h : s.NoticesOk) (k : NoticeKind) (u : Subject) (v : NoticeValue) :
    (s.post k u v).NoticesOk := by
  obtain ⟨hlength, hlevels, hattn⟩ := h
  unfold State.post
  dsimp only
  split
  · exact ⟨hlength, hlevels, hattn⟩
  next hlevel =>
    refine ⟨NoticeQueue.take_length _ _ _ hlength, fun m hm => ?_, fun ⟨m, hm, hurgent⟩ => ?_⟩
    · rcases NoticeQueue.mem_take _ _ _ _ hm with hold | ⟨rfl, -⟩
      · exact hlevels m hold
      · exact Nat.le_of_lt_succ (Nat.lt_of_not_le hlevel)
    · rcases NoticeQueue.mem_take _ _ _ _ hm with hold | ⟨rfl, hnew⟩
      · exact NoticeQueue.take_attn _ _ _ (hattn ⟨m, hold, hurgent⟩)
      · exact hnew hurgent

theorem State.NoticesOk.transition {s : State} (h : s.NoticesOk) (i : Nat) (e : EventEntry) (cut : Option Nat)
    (cause : Cause) : (s.transition i e cut cause).NoticesOk := by
  have hentry : (s.withEvents (s.events.set i (some e))).NoticesOk := h.congr rfl rfl
  unfold State.transition
  refine State.NoticesOk.post ?_ ..
  cases cut with
  | none => exact hentry.congr (by simp) (by simp)
  | some n =>
    exact (hentry.post .extensionCapped (.event i) (.quantity n)).congr (by simp) (by simp)

theorem State.NoticesOk.requestAction {s t : State} (h : s.NoticesOk) {i : Nat} {a : Action} {c : Cause} {sec ms : Nat}
    (ht : s.requestAction i a c sec ms = some t) : t.NoticesOk := by
  unfold State.requestAction at ht
  split at ht
  · obtain ⟨x, -, rfl⟩ := Option.map_eq_some_iff.mp ht
    exact h.transition ..
  · cases ht

theorem State.NoticesOk.fireFirst {s t : State} (h : s.NoticesOk) {now : Nat} (ht : s.fireFirst now = some t) :
    t.NoticesOk := by
  unfold State.fireFirst at ht
  split at ht
  · cases ht
  next m rest _ =>
    split at ht <;> cases ht
    have hrest : (s.withMarks rest).NoticesOk := h.congr rfl rfl
    cases hacts : (s.withMarks rest).requestAction m.event m.kind.action .timer now 0 with
    | none => exact hrest
    | some u => exact hrest.requestAction hacts

theorem State.NoticesOk.runPass {s : State} (h : s.NoticesOk) (n now : Nat) : (State.runPass n now s).NoticesOk := by
  induction n generalizing s with
  | zero => exact h
  | succ n ih =>
    unfold State.runPass
    split
    next t ht => exact ih (h.fireFirst ht)
    next => exact h

theorem State.NoticesOk.finishPass {s : State} (h : s.NoticesOk) : s.finishPass.NoticesOk := by
  unfold State.finishPass
  split
  · split
    · exact (h.runPass 129 _).congr rfl rfl
    · exact h.congr rfl rfl
  · exact h

theorem State.NoticesOk.cueRequest {s : State} (h : s.NoticesOk) (line : Nat) (a : Action) (i sec ms : Nat) :
    (s.cueRequest line a i sec ms).NoticesOk := by
  unfold State.cueRequest
  split
  · exact h
  · dsimp only
    split
    next t ht => exact h.finishPass.requestAction ht
    next => exact h.finishPass.post _ _ _

theorem State.NoticesOk.purchaseTest {s : State} (h : s.NoticesOk) (addr : BitVec 32) (product : BitVec 8) :
    (s.purchaseTest addr product).2.NoticesOk := by
  have hcreate (k : Key) (slot : Nat) : (s.createRecord k slot).NoticesOk := by
    unfold State.createRecord
    dsimp only
    split
    · refine State.NoticesOk.post ?_ ..
      exact h.congr rfl rfl
    · exact h.congr rfl rfl
  have hbit (k : Key) (slot : Nat) : (s.bitSet k slot).2.NoticesOk := by
    unfold State.bitSet
    (repeat' split)
    · exact h
    · exact h.congr rfl rfl
    · exact h.congr rfl rfl
    · exact hcreate k slot
    · exact h
  unfold State.purchaseTest
  split
  · exact h
  split
  · exact h
  dsimp only
  split
  · exact h
  split
  · exact h
  have hset := hbit ⟨blockOf addr, product.toNat⟩ (slotOf addr)
  unfold State.purchaseBit
  split <;> next heq => rw [heq] at hset; exact hset

theorem State.NoticesOk.enterStanddown {s : State} (h : s.NoticesOk) (byCue : Bool) : (s.enterStanddown byCue).NoticesOk := by
  refine State.NoticesOk.post ?_ ..
  exact h.congr rfl rfl

theorem State.NoticesOk.enterHoldover {s : State} (h : s.NoticesOk) (byLink : Bool) : (s.enterHoldover byLink).NoticesOk := by
  unfold State.enterHoldover
  dsimp only
  have hposted := State.NoticesOk.post (s := (s.withSup
    { s.sup with mode := .holdover, period := none, windowOn := false, collection := 0, faults := 0 }).withLink
    (s.link.closeUnsolicited .cut)) (h.congr rfl rfl) .holdoverEntered .none (.holdover byLink)
  unfold State.policyEntry
  split
  · exact hposted
  · exact hposted.congr (by simp) (by simp)
  · exact hposted.congr rfl rfl
  · split
    · exact hposted.enterStanddown true
    · exact hposted

theorem State.NoticesOk.countFault {s : State} (h : s.NoticesOk) (cause : FaultCause) : (s.countFault cause).NoticesOk := by
  unfold State.countFault
  dsimp only
  have hposted := State.NoticesOk.post
    (s := (s.withSup { s.sup with collection := 0, faults := s.sup.faults + 1 }).startPeriod) (h.congr rfl rfl)
    .supervisionFault .none (.fault cause (s.withSup { s.sup with collection := 0, faults := s.sup.faults + 1 }).startPeriod.sup.faults)
  split
  · exact hposted.enterHoldover false
  · exact hposted

theorem State.NoticesOk.frameError {s : State} (h : s.NoticesOk) (armed : Bool) : (s.frameError armed).NoticesOk := by
  have hquiet : s.restartQuiet.NoticesOk := h.congr (by simp) (by simp)
  unfold State.frameError
  dsimp only
  split
  · exact hquiet.congr rfl rfl
  · split
    · refine State.NoticesOk.enterHoldover (State.NoticesOk.post ?_ ..) true
      exact hquiet.congr rfl rfl
    · refine State.NoticesOk.post ?_ ..
      exact hquiet.congr rfl rfl

theorem State.NoticesOk.receiveByte {s : State} (h : s.NoticesOk) (b : Byte) : (s.receiveByte b).NoticesOk := by
  have hbyte : (s.withLink { s.link with lastByte := s.osc }).NoticesOk := h.congr rfl rfl
  unfold State.receiveByte
  dsimp only
  split
  · exact hbyte.congr rfl rfl
  · exact hbyte
  · split
    · exact hbyte.frameError false
    · split
      · unfold State.completeFrame
        split
        · exact hbyte.congr (by simp) (by simp)
        · exact hbyte.frameError false
      · exact hbyte.congr rfl rfl

theorem State.NoticesOk.testStretched {s : State} (h : s.NoticesOk) : s.testStretched.NoticesOk := by
  unfold State.testStretched
  dsimp only
  (repeat' split)
  · exact h
  · refine State.NoticesOk.post ?_ ..
    exact h.congr rfl rfl
  · refine State.NoticesOk.post ?_ ..
    exact h.congr rfl rfl
  · exact h

theorem State.NoticesOk.windowStep {s : State} (h : s.NoticesOk) : s.windowStep.NoticesOk := by
  have hoverload {u : State} (hu : u.NoticesOk) (b : Bool) : (u.setOverload b).NoticesOk := by
    unfold State.setOverload
    dsimp only
    split
    · refine State.NoticesOk.post ?_ ..
      exact hu.congr rfl rfl
    · exact hu.congr rfl rfl
  have hlapses {u : State} (hu : u.NoticesOk) : u.postLapses.NoticesOk := by
    unfold State.postLapses
    split
    · exact (hu.post _ _ _).congr rfl rfl
    · exact hu
  unfold State.windowStep
  split
  · exact h
  · have hmark : (s.withDue { s.due with window := s.due.window - 1 }).NoticesOk := h.congr rfl rfl
    exact hlapses (State.NoticesOk.testStretched ((hoverload hmark _).congr rfl rfl))

theorem State.NoticesOk.visit {s : State} (h : s.NoticesOk) : s.visit.NoticesOk := by
  unfold State.visit
  split
  · exact h
  · split
    · exact (h.post _ _ _).congr rfl rfl
    · dsimp only
      split
      · exact h.congr (by simp) (by simp)
      · exact h.congr rfl rfl

theorem State.NoticesOk.markFiring {s : State} (h : s.NoticesOk) : s.markFiring.NoticesOk := by
  unfold State.markFiring
  split
  · exact h
  · split
    · exact h.congr rfl rfl
    · split
      next t ht =>
        have hfired := h.fireFirst ht
        split <;> exact hfired.congr rfl rfl
      next => exact h.congr rfl rfl

theorem State.NoticesOk.acceptEdge {s : State} (h : s.NoticesOk) (n now : Nat) : (s.acceptEdge n now).NoticesOk := by
  unfold State.acceptEdge
  dsimp only
  split
  · split
    · unfold State.beginEpisode
      dsimp only
      split
      · refine State.NoticesOk.post ?_ ..
        exact h.congr rfl rfl
      · refine State.NoticesOk.post (State.NoticesOk.post ?_ ..) ..
        exact h.congr rfl rfl
    · split
      · refine State.NoticesOk.cueRequest ?_ ..
        exact h.congr rfl rfl
      · exact h.congr rfl rfl
  · exact h

theorem State.NoticesOk.endCooling {s : State} (h : s.NoticesOk) (n : Nat) : (s.endCooling n).NoticesOk := by
  unfold State.endCooling
  dsimp only
  split
  · split
    · refine State.NoticesOk.cueRequest ?_ ..
      exact h.congr rfl rfl
    · exact h.congr rfl rfl
  · exact h

theorem State.NoticesOk.takePulse {s : State} (h : s.NoticesOk) : s.takePulse.NoticesOk := by
  unfold State.takePulse
  split
  · have hphase (advance : Bool) : (s.rephase advance).NoticesOk := h.congr (by simp) (by simp)
    unfold State.restoringPulse
    by_cases hhold : s.clock.hold = 0
    · simp only [hhold, ↓reduceIte]
      split
      · refine State.NoticesOk.post ?_ ..
        exact (hphase (500 ≤ s.clock.ms)).congr rfl rfl
      · exact (hphase (500 ≤ s.clock.ms)).congr rfl rfl
    · simp only [hhold, ↓reduceIte]
      split
      · refine State.NoticesOk.post ?_ ..
        exact h.congr rfl rfl
      · exact h.congr rfl rfl
  · split
    · unfold State.lockedPulse
      dsimp only
      (repeat' split) <;> exact h.congr (by simp) (by simp)
    · exact h.congr rfl rfl

/-! ### Resets -/

theorem State.NoticesOk.start (s : State) (port : Port) : (s.start port).NoticesOk := by
  have hempty {u : State} (hu : u.notices = .empty) : u.NoticesOk := by
    unfold State.NoticesOk
    simp [hu, NoticeQueue.empty]
  unfold State.start
  dsimp only
  split
  · exact (hempty (by simp)).post _ _ _
  · exact hempty (by simp)

theorem State.NoticesOk.windowExpired {s : State} (h : s.NoticesOk) : s.windowExpired.NoticesOk := by
  unfold State.windowExpired
  split
  · refine State.NoticesOk.post ?_ ..
    exact h.congr (by simp) (by simp)
  · exact h

theorem State.NoticesOk.attnCheck {s : State} (h : s.NoticesOk) : s.attnCheck.NoticesOk := by
  unfold State.attnCheck
  split
  · exact h
  next hcalm =>
    obtain ⟨hlength, hlevels, -⟩ := h
    refine ⟨hlength, hlevels, fun ⟨n, hn, hurgent⟩ => absurd ?_ hcalm⟩
    exact List.any_eq_true.mpr ⟨n, hn, decide_eq_true hurgent⟩

theorem State.noticesOk_keptBySettling : KeptBySettling State.NoticesOk where
  link _ _ _ _ h := h.congr rfl rfl
  item s cancels x h := by
    unfold State.itemTest
    split
    · exact h.congr (by simp) (by simp)
    · exact h.purchaseTest ..
  write _ _ _ _ h := h.congr rfl rfl
  attn _ h := h.attnCheck
  reset s form _ h := by
    cases form with
    | tables => exact h.congr (by simp [State.resetActs]) (by simp [State.resetActs])
    | full => exact State.NoticesOk.start ..

/-! ### The rules of the commands -/

/-- Only the SET of the ATTN threshold writes it (R165). -/
theorem writeSetting_attnThreshold (c : Settings) {id : Nat} (v : Nat) (h : id ≠ 0x11) :
    (writeSetting c id v).attnThreshold = c.attnThreshold := by
  unfold writeSetting
  split <;> simp_all

theorem State.NoticesOk.takeSetting {s : State} (h : s.NoticesOk) (id v : Nat) : (s.takeSetting id v).NoticesOk := by
  unfold State.takeSetting
  split
  case h_1 =>
    unfold State.setWindow
    refine State.NoticesOk.testStretched ?_
    exact h.congr rfl rfl
  case h_5 =>
    obtain ⟨hlength, hlevels, -⟩ := h
    refine ⟨hlength, hlevels, fun ⟨n, hn, hurgent⟩ => ?_⟩
    have hany : s.notices.urgent v = true := List.any_eq_true.mpr ⟨n, hn, decide_eq_true hurgent⟩
    simp [hany]
  case h_6 hid => exact h.congr rfl (writeSetting_attnThreshold _ _ hid)
  all_goals exact h.congr rfl rfl

theorem State.NoticesOk.setRule {s : State} (h : s.NoticesOk) (id : BitVec 8) (value : BitVec 32) :
    (setRule id value s).2.NoticesOk := by
  unfold Machine.setRule
  dsimp only
  split
  · exact h
  · split
    · exact h.takeSetting ..
    · exact h
  · exact h.takeSetting ..

theorem State.NoticesOk.eventRule {s : State} (h : s.NoticesOk) (idx : BitVec 8) (so k e : BitVec 32)
    (late grace allow : BitVec 16) : (eventRule idx so k e late grace allow s).2.NoticesOk := by
  unfold Machine.eventRule
  dsimp only
  (repeat' split)
  · exact h
  · exact h.finishPass
  · exact h.finishPass.transition _ _ none .command

theorem State.NoticesOk.eventTimesRule {s : State} (h : s.NoticesOk) (idx : BitVec 8) (so k e : BitVec 32) :
    (eventTimesRule idx so k e s).2.NoticesOk := by
  unfold Machine.eventTimesRule
  dsimp only
  (repeat' split)
  · exact h
  · exact h.finishPass
  · exact h.finishPass.congr (by simp [plainReply]) (by simp [plainReply])
  · exact h.finishPass

theorem State.NoticesOk.blackoutRule {s : State} (h : s.NoticesOk) (idx : BitVec 8) (regions : BitVec 64) :
    (blackoutRule idx regions s).2.NoticesOk := by
  unfold Machine.blackoutRule
  dsimp only
  (repeat' split)
  · exact h
  · exact h.finishPass
  · exact h.finishPass
  · exact h.finishPass.congr (by simp [plainReply]) (by simp [plainReply])

theorem State.NoticesOk.cueBindRule {s : State} (h : s.NoticesOk) (line ev action level : BitVec 8)
    (debounce : BitVec 16) : (cueBindRule line ev action level debounce s).2.NoticesOk := by
  unfold Machine.cueBindRule
  dsimp only
  (repeat' split)
  · exact h
  · exact h
  · exact h
  · exact h.finishPass.congr (by simp) (by simp)

theorem State.NoticesOk.cueUnbindRule {s : State} (h : s.NoticesOk) (line form : BitVec 8) :
    (cueUnbindRule line form s).2.NoticesOk := by
  unfold Machine.cueUnbindRule
  dsimp only
  split
  · exact h
  · exact h.finishPass.congr (by simp) (by simp)

theorem State.NoticesOk.eventActionRule {s : State} (h : s.NoticesOk) (a : Action) (idx code : BitVec 8) :
    (eventActionRule a idx code s).2.NoticesOk := by
  unfold Machine.eventActionRule
  dsimp only
  split
  · exact h
  split
  · exact h.finishPass
  split
  · exact h.finishPass
  next t ht =>
    have hacted := h.finishPass.requestAction ht
    split <;> exact hacted

theorem State.NoticesOk.keepaliveRule {s : State} (h : s.NoticesOk) (part value : BitVec 8) :
    (keepaliveRule part value s).2.NoticesOk := by
  have hgo : s.go.NoticesOk := by
    unfold State.go
    have hserving : ((s.withSup { s.sup with mode := .serving, configTimer := none }).completeKeepalive).NoticesOk :=
      h.congr (by simp) (by simp)
    exact (hserving.runPass 129 _).congr rfl rfl
  have hresume : s.resume.NoticesOk := by
    unfold State.resume
    refine State.NoticesOk.post ?_ ..
    dsimp only
    split <;> exact h.congr (by simp) (by simp)
  have hfinal : s.finalPart.2.NoticesOk := by
    unfold State.finalPart
    split
    · exact hgo
    · exact hresume
    · exact hresume
    all_goals
      split
      · exact h.countFault _
      · exact h.congr rfl rfl
  have hwrong : s.wrongPart.NoticesOk := by
    unfold State.wrongPart
    split
    · exact h.countFault _
    · exact h.congr rfl rfl
  change (s.takePart part.toNat value.toNat).2.NoticesOk
  unfold State.takePart
  dsimp only
  (repeat' split) <;> assumption

theorem State.NoticesOk.noticesRule {s : State} (h : s.NoticesOk) : (noticesRule s).2.NoticesOk := by
  obtain ⟨hlength, hlevels, hattn⟩ := h
  refine ⟨?_, fun n hn => hlevels n (List.mem_of_mem_drop hn), fun ⟨n, hn, hurgent⟩ =>
    hattn ⟨n, List.mem_of_mem_drop hn, hurgent⟩⟩
  simpa [Machine.noticesRule] using Nat.le_add_right_of_le (k := 8) hlength

/-- The rule of every command keeps the condition. -/
theorem State.NoticesOk.rule {s : State} (h : s.NoticesOk) {c : Instr} {rule : State → Answer}
    (hc : linkRule c = some rule) : (rule s).2.NoticesOk := by
  cases c <;> cases hc
  case set hd id value => exact h.setRule id value
  case event => exact h.eventRule ..
  case eventTimes => exact h.eventTimesRule ..
  case blackout => exact h.blackoutRule ..
  case cueBind => exact h.cueBindRule ..
  case cueClearUnbind => exact h.cueUnbindRule ..
  case keepalive hd part value => exact h.keepaliveRule part value
  case purchase hd addr product => exact h.purchaseTest addr product
  case notices => exact h.noticesRule
  case eventActionOpenSale => exact h.eventActionRule ..
  case eventActionKickoff => exact h.eventActionRule ..
  case eventActionOvertime => exact h.eventActionRule ..
  case eventActionSuspend => exact h.eventActionRule ..
  case eventActionResume => exact h.eventActionRule ..
  case eventActionFinish => exact h.eventActionRule ..
  case eventActionVoid => exact h.eventActionRule ..
  case saveSettings => exact h.congr rfl rfl
  case maintenanceExit => exact h.congr rfl rfl
  case resetFull => exact h.congr rfl rfl
  case maintenanceEnter => 
    unfold maintenanceEnterRule
    (repeat' split)
    · exact h
    · exact h
    · exact h.congr rfl rfl
  all_goals exact h.congr (by simp) (by simp)

/-- Every row of the block itself keeps the condition. -/
theorem State.NoticesOk.ownRow {s : State} (h : s.NoticesOk) {c : Instr} {f : State → State}
    (hc : ownRow c = some f) : (f s).NoticesOk := by
  cases c <;> cases hc
  case saveSettingsWriteComplete => exact State.noticesOk_keptBySettling.completeWrite s h
  case batchItem => exact State.noticesOk_keptBySettling.takeItem s h
  case replySent => exact State.noticesOk_keptBySettling.sendDone s h
  case resetFullActs => exact State.NoticesOk.start ..
  case configuringWindowExpiry => exact h.windowExpired
  case frameCompletes b => exact h.receiveByte b
  case lenOutOfRange b => exact h.receiveByte b
  case byteReceived b => exact h.receiveByte b
  case byteGapExpiry =>
    unfold State.gapPassed
    split
    · exact h.frameError true
    · exact h
  case markFiring => exact h.markFiring
  case windowStep => exact h.windowStep
  case pulse => exact h.takePulse
  case lossTimerExpiry =>
    unfold State.loseReference
    split
    · refine State.NoticesOk.post ?_ ..
      exact h.congr rfl rfl
    · exact h
  case sweepVisit => exact h.visit
  case slotGrant us =>
    dsimp only
    split
    · exact h.congr (by simp) (by simp)
    · exact h
  case starvationTimerExpiry =>
    unfold State.starve
    split
    · refine State.NoticesOk.post ?_ ..
      exact h.congr rfl rfl
    · exact h
  case debounceExpiry line ms => exact h.acceptEdge line ms
  case coolingTimerExpiry line => exact h.endCooling line
  case settlingTimerExpiry =>
    unfold State.settlingDone
    split
    · dsimp only
      split
      · refine State.NoticesOk.enterStanddown ?_ true
        exact h.congr rfl rfl
      · exact h.congr rfl rfl
    · exact h
  case periodTimerExpiry =>
    unfold State.periodElapsed
    split
    · exact h.countFault _
    · exact h
  case quietTimerExpiry =>
    unfold State.quietElapsed
    split
    · exact h.enterStanddown false
    · exact h
  case announceIntervalCheck =>
    obtain ⟨d, x, a, heq⟩ := s.announceCheck_eq
    exact heq ▸ h.congr rfl rfl
  case batchIdleTimeout => exact h.congr rfl rfl
  case rateInterval => exact h.congr rfl rfl
  case holdExpires => exact h.congr rfl rfl
  case frameClock => exact h.congr rfl rfl
  all_goals exact h.congr (by simp) (by simp)

/-- Every row of the pins keeps the condition. -/
theorem State.NoticesOk.pinRow {s : State} (h : s.NoticesOk) {c : Instr} {f : State → State}
    (hc : pinRow c = some f) : (f s).NoticesOk := by
  cases c <;> cases hc
  case powerOn => exact State.NoticesOk.start ..
  case resetLine =>
    dsimp only
    split
    · exact h
    · exact State.NoticesOk.start ..
  case resetLineAsserted =>
    unfold State.holdInReset
    split
    · exact h
    · exact h.congr rfl rfl
  case cuePinChange => exact h.congr (by simp) (by simp)
  case powerLoss => exact h.congr rfl rfl

theorem State.noticesOk_invariant : Invariant State.NoticesOk where
  command _ :=
    { settling := State.noticesOk_keptBySettling
      weaken := fun _ h => h
      reply := fun _ _ _ _ _ h => h.congr rfl rfl
      rule := fun _ hc _ _ _ h => h.rule hc
      own := fun _ hc _ _ h => h.ownRow hc
      pin := fun _ hc _ h => h.pinRow hc }
  queue _ _ h := h.congr rfl rfl
  choice _ _ h := h.congr rfl rfl
  tick _ _ h := h.congr rfl rfl

/-- Settles O56: a notice joins with its level and asserts ATTN if it is urgent, and what else touches the queue, ATTN or the
threshold keeps the condition. -/
theorem stepsKeepAttnWhileUrgent : Obligations.StepsKeepAttnWhileUrgent :=
  fun _ _ h hstep => State.noticesOk_invariant.step hstep h

end Sys2Proof.Machine
end

section
/-! PROOF. The settings stay in range (R164 to R168, R191). -/

namespace Sys2Proof.Machine

/-! ### A value that a setting takes (R165, R191) -/

/-- The value is one that a setting admits: one of its codes, or within its range. -/
def Admits.Holds (a : Admits) (v : Nat) : Prop :=
  match a with
  | .codes cs => v ∈ cs
  | .range lo hi => lo ≤ v ∧ v ≤ hi

theorem writeSetting_level (c : Settings) {id : Nat} (v : Nat) (h : 0x21 ≤ id) :
    writeSetting c id v = { c with levels := c.levels.set (id - 0x21) v } := by
  unfold writeSetting
  split
  case h_18 => rfl
  all_goals exact absurd h (by decide)

/-- A setting other than W_cfg at a value that it admits leaves all settings in range; W_cfg moves the guard too (R82). -/
theorem Settings.InRange.writeSetting {c : Settings} (h : c.InRange) {id v : Nat} {a : Admits} (hid : id ≠ 0x09)
    (ha : settingAdmits c id = some a) (hv : a.Holds v) : (writeSetting c id v).InRange := by
  unfold settingAdmits at ha
  split at ha
  case h_9 => exact absurd rfl hid
  case h_18 =>
    split at ha
    next hlevel =>
      cases ha
      simp only [Bool.and_eq_true, decide_eq_true_eq] at hlevel
      rw [writeSetting_level c v hlevel.1]
      have hlevels (l : Nat) (hl : l ∈ c.levels.set (id - 0x21) v) : l ∈ c.levels ∨ l = v :=
        List.mem_or_eq_of_mem_set hl
      simp only [Admits.Holds] at hv
      unfold Settings.InRange at h ⊢
      simp only [List.length_set]
      grind
    · cases ha
  all_goals
    cases ha
    simp only [Admits.Holds, List.mem_cons, List.not_mem_nil, or_false] at hv
    unfold Settings.InRange at h ⊢
    simp only [Machine.writeSetting]
    grind

/-- W_cfg at a value of its range, with the guard clamped to floor(W_cfg / 4), leaves all settings in range (R82). -/
theorem Settings.InRange.setWindow {c : Settings} (h : c.InRange) {w : Nat} (hlo : 10 ≤ w) (hhi : w ≤ 600) :
    ({ c with windowConfigured := w, guard := min c.guard (w / 4) } : Settings).InRange := by
  unfold Settings.InRange at h ⊢
  grind

/-- With the settings in range no setting's range is empty (R83, R191). -/
theorem Settings.InRange.range_nonempty {c : Settings} (h : c.InRange) {id lo hi : Nat}
    (ha : settingAdmits c id = some (.range lo hi)) : lo ≤ hi := by
  have hwindow : 2 ≤ c.windowConfigured / 4 := by
    unfold Settings.InRange at h
    omega
  unfold settingAdmits at ha
  split at ha
  case h_10 =>
    cases ha
    exact hwindow
  case h_18 =>
    split at ha <;> cases ha
    decide
  all_goals cases ha <;> decide

theorem clampTo_holds {lo hi : Nat} (h : lo ≤ hi) (v : Nat) : (Admits.range lo hi).Holds (clampTo lo hi v) := by
  unfold Admits.Holds clampTo
  omega

/-- The settings after a setting has taken a value. -/
def Settings.taking (c : Settings) (id v : Nat) : Settings :=
  if id = 0x09 then { c with windowConfigured := v, guard := min c.guard (v / 4) } else writeSetting c id v

theorem Settings.InRange.taking {c : Settings} (h : c.InRange) {id v : Nat} {a : Admits}
    (ha : settingAdmits c id = some a) (hv : a.Holds v) : (c.taking id v).InRange := by
  unfold Settings.taking
  split
  next hid =>
    subst hid
    cases ha
    exact h.setWindow hv.1 hv.2
  next hid => exact h.writeSetting hid ha hv

@[simp] theorem State.takeSetting_settings (s : State) (id v : Nat) :
    (s.takeSetting id v).settings = { s.settings with current := s.settings.current.taking id v } := by
  unfold State.takeSetting
  split
  case h_1 => simp [State.setWindow, State.withCurrent, Settings.taking]
  case h_6 hwindow _ _ _ _ => simp [State.withCurrent, Settings.taking, show id ≠ 0x09 from hwindow]
  all_goals simp [State.withCurrent, Settings.taking]

/-- SET refuses, or its setting takes a value that it admits (R165). -/
theorem setRule_cases {s : State} (h : s.settings.current.InRange) (id : BitVec 8) (value : BitVec 32) :
    (setRule id value s).2 = s ∨
    ∃ a v, settingAdmits s.settings.current id.toNat = some a ∧ a.Holds v ∧
      (setRule id value s).2 = s.takeSetting id.toNat v := by
  unfold setRule
  dsimp only
  split
  next => exact .inl rfl
  next cs ha =>
    split
    next hmem => exact .inr ⟨_, _, ha, List.contains_iff_mem.mp hmem, rfl⟩
    next => exact .inl rfl
  next lo hi ha => exact .inr ⟨_, _, ha, clampTo_holds (h.range_nonempty ha) _, rfl⟩

/-! ### What a keepalive makes of the settings in force (R152, R153, R168) -/

/-- A new challenge has been issued and a period started: their settings are in force. -/
def SettingsStore.completed (x : SettingsStore) : SettingsStore :=
  periodSettings { x with inForce := { x.inForce with partsCount := x.current.partsCount } }

theorem State.takePart_settings (s : State) (part value : Nat) :
    (s.takePart part value).2.settings = s.settings ∨ (s.takePart part value).2.settings = periodSettings s.settings ∨
    (s.takePart part value).2.settings = s.settings.completed := by
  have hwrong : s.wrongPart.settings = s.settings ∨ s.wrongPart.settings = periodSettings s.settings := by
    unfold State.wrongPart
    split
    · exact .inr (by simp)
    · exact .inl rfl
  have hfinal : s.finalPart.2.settings = periodSettings s.settings ∨ s.finalPart.2.settings = s.settings.completed := by
    unfold State.finalPart
    split
    · exact .inr (by simp [State.go, State.startStarvation, SettingsStore.completed])
    · exact .inr (by unfold State.resume; dsimp only; split <;> simp [State.startStarvation, SettingsStore.completed])
    · exact .inr (by unfold State.resume; dsimp only; split <;> simp [State.startStarvation, SettingsStore.completed])
    all_goals
      split
      · exact .inl (by simp)
      · exact .inr (by simp [SettingsStore.completed])
  unfold State.takePart
  dsimp only
  (repeat' split)
  · exact .inl rfl
  · exact .inl rfl
  · exact .inl rfl
  · exact hwrong.imp_right .inl
  · exact .inl rfl
  · exact .inr hfinal

/-! ### The settings in range along every step -/

theorem Settings.defaults_inRange : Settings.defaults.InRange := by
  unfold Settings.InRange
  decide

/-- The condition reads the copies of the settings and the parts in force alone. -/
theorem State.SettingsOk.congr {s t : State} (h : s.SettingsOk) (hc : t.settings.current = s.settings.current)
    (hs : t.settings.stored = s.settings.stored) (hw : t.settings.writing = s.settings.writing)
    (hp : t.settings.inForce.partsCount = s.settings.inForce.partsCount) : t.SettingsOk := by
  unfold State.SettingsOk
  rwa [hc, hs, hw, hp]

theorem State.SettingsOk.same {s t : State} (h : s.SettingsOk) (heq : t.settings = s.settings) : t.SettingsOk :=
  h.congr (by rw [heq]) (by rw [heq]) (by rw [heq]) (by rw [heq])

theorem Settings.InRange.parts {c : Settings} (h : c.InRange) :
    c.partsCount = 1 ∨ c.partsCount = 2 ∨ c.partsCount = 4 := by
  unfold Settings.InRange at h
  omega

theorem State.SettingsOk.enterConfiguring {s : State} (h : s.SettingsOk) : s.enterConfiguring.SettingsOk := by
  obtain ⟨hcurrent, hstored, hwriting, -⟩ := h
  exact ⟨hcurrent, hstored, hwriting, hcurrent.parts⟩

theorem State.SettingsOk.resetTables {s : State} (h : s.SettingsOk) : s.resetTables.SettingsOk := by
  unfold State.resetTables
  refine State.SettingsOk.enterConfiguring ?_
  exact h.same rfl

theorem State.SettingsOk.start {s : State} (h : ∀ c, s.settings.stored = some c → c.InRange) (port : Port) :
    (s.start port).SettingsOk := by
  have hload : (s.settings.stored.getD .defaults).InRange := by
    cases hstored : s.settings.stored with
    | none => exact Settings.defaults_inRange
    | some c => exact h c hstored
  unfold State.start
  dsimp only
  have hloaded {u : State}
      (hu : u.settings = ⟨s.settings.stored.getD .defaults, .ofSettings (s.settings.stored.getD .defaults),
        s.settings.stored, none⟩) : u.SettingsOk := by
    unfold State.SettingsOk
    rw [hu]
    exact ⟨hload, h, nofun, hload.parts⟩
  have hentered {u : State} (hu : u.SettingsOk) := State.SettingsOk.enterConfiguring hu
  split
  · refine State.SettingsOk.same (hentered (hloaded ?_)) (by simp; rfl)
    rfl
  · exact hentered (hloaded rfl)

theorem State.SettingsOk.endActivity {s : State} (h : s.SettingsOk) : s.endActivity.SettingsOk := by
  obtain ⟨hcurrent, hstored, -, hparts⟩ := h
  refine ⟨hcurrent, fun c hc => ?_, nofun, hparts⟩
  change (if s.settings.writing.isSome then none else s.settings.stored) = some c at hc
  split at hc
  · cases hc
  · exact hstored c hc

theorem State.SettingsOk.release {s : State} (h : s.SettingsOk) (p q : Bool) : (s.release p q).SettingsOk := by
  obtain ⟨-, hstored, -⟩ := h.endActivity
  unfold State.release
  refine State.SettingsOk.start ?_ _
  exact hstored

theorem State.settingsOk_keptBySettling : KeptBySettling State.SettingsOk where
  link _ _ _ _ h := h.same rfl
  item _ _ _ h := h.same (by simp)
  write s snapshot left hw h := by
    obtain ⟨hcurrent, -, hwriting, hparts⟩ := h
    refine ⟨hcurrent, fun c hc => ?_, nofun, hparts⟩
    cases hc
    exact hwriting snapshot left hw
  attn _ h := h.same (by simp)
  reset s form _ h := by
    cases form with
    | tables => exact h.resetTables.same rfl
    | full =>
      obtain ⟨-, hstored, -⟩ := h
      exact State.SettingsOk.start hstored _

theorem State.SettingsOk.rule {s : State} (h : s.SettingsOk) {c : Instr} {rule : State → Answer}
    (hc : linkRule c = some rule) : (rule s).2.SettingsOk := by
  have ⟨hcurrent, hstored, hwriting, hparts⟩ := h
  cases c <;> cases hc
  case set hd id value =>
    rcases setRule_cases hcurrent id value with heq | ⟨a, v, ha, hv, heq⟩ <;> rw [heq]
    · exact h
    · unfold State.SettingsOk
      rw [State.takeSetting_settings]
      exact ⟨hcurrent.taking ha hv, hstored, hwriting, hparts⟩
  case saveSettings =>
    refine ⟨hcurrent, hstored, fun c n hc => ?_, hparts⟩
    cases hc
    exact hcurrent
  case keepalive hd part value =>
    change (s.takePart part.toNat value.toNat).2.SettingsOk
    rcases s.takePart_settings part.toNat value.toNat with heq | heq | heq
    · exact h.same heq
    · exact h.congr (by rw [heq]; rfl) (by rw [heq]; rfl) (by rw [heq]; rfl) (by rw [heq]; rfl)
    · unfold State.SettingsOk
      rw [heq]
      exact ⟨hcurrent, hstored, hwriting, hcurrent.parts⟩
  case maintenanceEnter =>
    unfold maintenanceEnterRule
    (repeat' split)
    · exact h
    · exact h
    · exact h.congr rfl rfl rfl rfl
  case maintenanceExit => exact h.congr rfl rfl rfl rfl
  case resetFull => exact h.same rfl
  all_goals exact h.same (by simp)

theorem State.SettingsOk.ownRow {s : State} (h : s.SettingsOk) {c : Instr} {f : State → State}
    (hc : ownRow c = some f) : (f s).SettingsOk := by
  cases c <;> cases hc
  case saveSettingsWriteComplete => exact State.settingsOk_keptBySettling.completeWrite s h
  case resetTablesActs => exact h.resetTables.same rfl
  case resetFullActs =>
    obtain ⟨-, hstored, -⟩ := h
    exact State.SettingsOk.start hstored _
  case configuringWindowExpiry =>
    unfold State.windowExpired
    split
    · exact h.resetTables.same (by simp)
    · exact h
  case announceIntervalCheck =>
    obtain ⟨d, x, a, heq⟩ := s.announceCheck_eq
    exact heq ▸ h.congr rfl rfl rfl rfl
  case periodTimerExpiry =>
    unfold State.periodElapsed
    split
    · exact h.congr (by simp) (by simp) (by simp) (by simp)
    · exact h
  case slotGrant =>
    dsimp only
    split
    · exact h.same (by simp)
    · exact h
  case batchIdleTimeout => exact h.same rfl
  case rateInterval => exact h.same rfl
  case holdExpires => exact h.same rfl
  case frameClock => exact h.same rfl
  all_goals exact h.same (by simp)

theorem State.SettingsOk.pinRow {s : State} (h : s.SettingsOk) {c : Instr} {f : State → State}
    (hc : pinRow c = some f) : (f s).SettingsOk := by
  cases c <;> cases hc
  case powerOn p q => exact h.release p q
  case resetLine p q =>
    dsimp only
    split
    · exact h
    · exact h.release p q
  case resetLineAsserted =>
    unfold State.holdInReset
    split
    · exact h
    · exact h.endActivity.same rfl
  case cuePinChange => exact h.same (by simp)
  case powerLoss => exact h.endActivity.same rfl

theorem State.SettingsOk.tick {s : State} (h : s.SettingsOk) : s.tick.SettingsOk := by
  obtain ⟨hcurrent, hstored, hwriting, hparts⟩ := h
  refine ⟨hcurrent, hstored, fun c n hc => ?_, hparts⟩
  obtain ⟨⟨d, m⟩, hd, heq⟩ := Option.map_eq_some_iff.mp hc
  cases heq
  exact hwriting c m hd

theorem State.settingsOk_invariant : Invariant State.SettingsOk where
  command _ :=
    { settling := State.settingsOk_keptBySettling
      weaken := fun _ h => h
      reply := fun _ _ _ _ _ h => h.same rfl
      rule := fun _ hc _ _ _ h => h.rule hc
      own := fun _ hc _ _ h => h.ownRow hc
      pin := fun _ hc _ h => h.pinRow hc }
  queue _ _ h := h.same rfl
  choice _ _ h := h.same rfl
  tick _ _ h := h.tick

end Sys2Proof.Machine
end

section
/-! PROOF. The Pacing Unit: what a second mark and a rate interval make of it, and its bounds, with those of the link error
count, along every step (R74 to R81, R89, R173). -/

namespace Sys2Proof.Machine

/-! ### A second mark at the Pacing Unit (R78 to R81, R89) -/

/-- Posting reads the settings, the clock and the queue alone. -/
theorem State.post_of_same {s t : State} (k : NoticeKind) (u : Subject) (v : NoticeValue)
    (hs : t.settings.current = s.settings.current) (hc : t.clock = s.clock) (hq : t.notices = s.notices) :
    t.post k u v = t.withNotices (s.post k u v).notices := by
  rw [State.post_eq t, State.post_notices_congr t s k u v hs hc hq]

theorem State.post_withPacing (s : State) (x : Pacing) (k : NoticeKind) (u : Subject) (v : NoticeValue) :
    (s.withPacing x).post k u v = (s.post k u v).withPacing x := by
  calc (s.withPacing x).post k u v
      = (s.withNotices (s.post k u v).notices).withPacing x := State.post_of_same k u v rfl rfl rfl
    _ = (s.post k u v).withPacing x := by rw [← State.post_eq]

/-- The case of overload (R78): records in the ring that no window up to 3,600 s can serve. -/
def Overloaded (r c guard : Nat) : Prop := r ≠ 0 ∧ (c = 0 ∨ 3600 < (r + c - 1) / c + guard)

theorem targetWindow_of_overloaded {r c guard : Nat} (wcfg : Nat) (h : Overloaded r c guard) :
    targetWindow r c wcfg guard = (3600, true) := by
  obtain ⟨hr, hover⟩ := h
  unfold targetWindow
  by_cases hc : c = 0
  · simp [hr, hc]
  · have hround := hover.resolve_left hc
    simp only [hr, hc, ↓reduceIte]
    exact if_neg (by omega)

theorem targetWindow_of_not_overloaded {r c guard : Nat} (wcfg : Nat) (h : ¬Overloaded r c guard) :
    targetWindow r c wcfg guard = (if r = 0 then wcfg else max wcfg ((r + c - 1) / c + guard), false) := by
  unfold targetWindow
  by_cases hr : r = 0
  · simp [hr]
  · have hcover : ¬(c = 0 ∨ 3600 < (r + c - 1) / c + guard) := fun hover => h ⟨hr, hover⟩
    rw [not_or] at hcover
    simp only [hr, hcover.1, ↓reduceIte]
    exact if_pos (by omega)

theorem State.setOverload_eq (s : State) (b : Bool) :
    s.setOverload b =
      (if b = true ∧ s.pacing.overload = false then s.post .carouselOverload .none (.quantity s.store.ring.length)
      else s).withPacing { s.pacing with overload := b } := by
  unfold State.setOverload
  simp only [Bool.and_eq_true, Bool.not_eq_true', State.post_withPacing, State.withPacing_store]
  split <;> rfl

theorem State.postLapses_eq (s : State) :
    s.postLapses =
      (if 0 < s.pacing.lapses then s.post .lapse .none (.quantity s.pacing.lapses) else s).withPacing
        { s.pacing with lapses := 0 } := by
  unfold State.postLapses
  split
  · simp
  next hnone =>
    have hzero : s.pacing.lapses = 0 := by omega
    rw [← hzero]
    rfl

/-- W_eff after a second mark: the target is R's window, or 3,600 s in overload, and W_eff rises to it or falls by one
(R78, R80). -/
def State.nextWindow (s : State) : Nat :=
  let wcfg := s.settings.current.windowConfigured
  stepWindow (targetWindow s.store.ring.length s.pacing.capacity wcfg s.settings.current.guard).1 s.pacing.window

/-- The notices of a second mark, in the order of log 14: overload entered, the stretched condition changed to that of
W_eff at `window`, lapses counted (R79, R81, R89). -/
def State.postPacing (s : State) (overloaded : Bool) (window : Nat) : State :=
  let wcfg := s.settings.current.windowConfigured
  let a := if overloaded = true ∧ s.pacing.overload = false then
      s.post .carouselOverload .none (.quantity s.store.ring.length)
    else s
  let b :=
    if wcfg < window ∧ s.pacing.stretched = false then a.post .windowStretched .none (.quantity window)
    else if ¬wcfg < window ∧ s.pacing.stretched = true then a.post .windowRelaxed .none (.quantity wcfg)
    else a
  if 0 < s.pacing.lapses then b.post .lapse .none (.quantity s.pacing.lapses) else b

/-- The notices of a second mark change the Notice Queue alone. -/
theorem State.postPacing_frame (s : State) (overloaded : Bool) (window : Nat) :
    (s.postPacing overloaded window).settings = s.settings ∧ (s.postPacing overloaded window).link = s.link := by
  unfold State.postPacing
  dsimp only
  (repeat' split) <;> simp

/-- The Pacing Unit after a second mark (R78 to R81, R89). -/
theorem State.windowMark_eq (s : State) :
    let wcfg := s.settings.current.windowConfigured
    let overloaded := (targetWindow s.store.ring.length s.pacing.capacity wcfg s.settings.current.guard).2
    s.windowMark =
      (s.postPacing overloaded s.nextWindow).withPacing
        { s.pacing with
          window := s.nextWindow, overload := overloaded, stretched := decide (wcfg < s.nextWindow), lapses := 0 } := by
  intro wcfg overloaded
  have htested (u : State) (hp : u.pacing = s.pacing) (hs : u.settings = s.settings) :
      State.testStretched (u.withPacing { s.pacing with overload := overloaded, window := s.nextWindow }) =
        (if wcfg < s.nextWindow ∧ s.pacing.stretched = false then u.post .windowStretched .none (.quantity s.nextWindow)
        else if ¬wcfg < s.nextWindow ∧ s.pacing.stretched = true then u.post .windowRelaxed .none (.quantity wcfg)
        else u).withPacing
          { s.pacing with
            window := s.nextWindow, overload := overloaded, stretched := decide (wcfg < s.nextWindow) } := by
    rw [State.testStretched_eq]
    simp only [State.withPacing_settings, State.withPacing_pacing, hs, State.post_withPacing, State.withPacing_twice]
    (repeat' split) <;> rfl
  unfold State.windowMark State.postPacing
  dsimp only
  rw [State.setOverload_eq]
  simp only [State.withPacing_pacing, State.withPacing_twice]
  change (State.testStretched (State.withPacing _ { s.pacing with overload := overloaded, window := s.nextWindow })).postLapses = _
  rw [htested]
  · rw [State.postLapses_eq]
    simp only [State.withPacing_pacing, State.post_withPacing]
    split <;> rfl
  all_goals split <;> simp

/-- Settles O46: the second mark counted, W_eff steps toward its target and the notices follow. -/
theorem windowFollowsTheTarget : Obligations.WindowFollowsTheTarget := by
  intro s hrun hdue r c wcfg round overloaded target window u
  have hstep : s.windowStep = u.windowMark := if_neg (Nat.ne_of_gt hdue)
  have htarget : targetWindow r c wcfg s.settings.current.guard = (target, decide overloaded) := by
    by_cases hover : overloaded
    · rw [targetWindow_of_overloaded wcfg hover]
      simp [target, hover, hover.1]
    · rw [targetWindow_of_not_overloaded wcfg hover]
      simp [target, hover, round]
  have hwindow : u.nextWindow = window := by
    change stepWindow (targetWindow r c wcfg s.settings.current.guard).1 s.pacing.window = window
    rw [htarget]
    rfl
  intro a b d
  change s.live State.windowStep = _
  rw [State.live_running _ _ hrun, hstep, State.windowMark_eq, hwindow]
  change Host.Outcome.next
    ((u.postPacing (targetWindow r c wcfg s.settings.current.guard).2 window).withPacing
      { s.pacing with
        window := window, overload := (targetWindow r c wcfg s.settings.current.guard).2,
        stretched := decide (wcfg < window), lapses := 0 }) = _
  rw [htarget]
  unfold State.postPacing
  simp only [decide_eq_true_eq]
  rfl

/-! ### A rate interval (R75 to R77) -/

theorem nextA16_unseeded (a16 n : Nat) : nextA16 false a16 n = 16 * n := rfl

theorem nextA16_up {a16 n : Nat} (h : a16 ≤ 16 * n) : nextA16 true a16 n = a16 + (16 * n - a16) / 8 := by
  unfold nextA16
  simp only [↓reduceIte]
  have hdiff : (16 * (n : Int) - a16) = ((16 * n - a16 : Nat) : Int) := by omega
  rw [hdiff]
  norm_cast

theorem nextA16_down {a16 n : Nat} (h : 16 * n < a16) : nextA16 true a16 n = a16 - (a16 - 16 * n) / 8 := by
  unfold nextA16
  simp only [↓reduceIte]
  have hdiff : (16 * (n : Int) - a16) = -((a16 - 16 * n : Nat) : Int) := by omega
  rw [hdiff, Int.neg_tdiv, Int.tdiv_eq_ediv_of_nonneg (by omega)]
  omega

theorem nextA16_le {seeded : Bool} {a16 n : Nat} (ha : a16 ≤ 80000) (hn : n ≤ 5000) : nextA16 seeded a16 n ≤ 80000 := by
  cases seeded with
  | false =>
    rw [nextA16_unseeded]
    omega
  | true =>
    rcases Nat.lt_or_ge (16 * n) a16 with h | h
    · rw [nextA16_down h]
      omega
    · rw [nextA16_up h]
      omega

theorem capacityOf_le {a16 share : Nat} (ha : a16 ≤ 80000) (hs : share ≤ 90) : capacityOf a16 share ≤ 4500 := by
  unfold capacityOf
  have hprod : a16 * share ≤ 80000 * 90 := Nat.mul_le_mul ha hs
  omega

/-! ### The bounds along every step -/

/-- The Pacing Unit within its bounds, and the link error count within its threshold. -/
def State.BoundsOk (s : State) : Prop := s.PacingOk ∧ s.link.errors ≤ s.settings.current.linkThreshold

/-- The bounds read the Pacing Unit, the error count and two settings alone. -/
theorem State.BoundsOk.congr {s t : State} (h : s.BoundsOk) (hp : t.pacing = s.pacing)
    (hw : t.settings.current.windowConfigured = s.settings.current.windowConfigured)
    (hl : t.settings.current.linkThreshold = s.settings.current.linkThreshold) (he : t.link.errors = s.link.errors) :
    t.BoundsOk := by
  unfold State.BoundsOk State.PacingOk
  rwa [hp, hw, hl, he]

theorem State.BoundsOk.withErrors {s t : State} (h : s.BoundsOk) (hp : t.pacing = s.pacing)
    (hc : t.settings.current = s.settings.current) (he : t.link.errors ≤ s.settings.current.linkThreshold) :
    t.BoundsOk := by
  obtain ⟨hpacing, -⟩ := h
  unfold State.BoundsOk State.PacingOk
  rw [hp, hc]
  exact ⟨hpacing, he⟩

@[simp] theorem State.enterHoldover_errors (s : State) (byLink : Bool) :
    (s.enterHoldover byLink).link.errors = s.link.errors := by
  simp [State.enterHoldover]

@[simp] theorem State.countFault_errors (s : State) (cause : FaultCause) :
    (s.countFault cause).link.errors = s.link.errors := by
  unfold State.countFault
  dsimp only
  split <;> simp

theorem State.frameError_errors (s : State) (armed : Bool) :
    (s.frameError armed).link.errors =
      if s.link.errors < s.settings.current.linkThreshold then s.link.errors + 1 else 0 := by
  unfold State.frameError
  simp only [State.restartQuiet_frame, State.withLink_link, State.withLink_settings]
  split
  · rfl
  · split <;> simp

theorem State.BoundsOk.frameError {s : State} (h : s.BoundsOk) (armed : Bool) : (s.frameError armed).BoundsOk := by
  refine h.withErrors (by simp) (by simp) ?_
  rw [State.frameError_errors]
  split <;> omega

theorem State.BoundsOk.receiveByte {s : State} (h : s.BoundsOk) (b : Byte) : (s.receiveByte b).BoundsOk := by
  have hbyte : (s.withLink { s.link with lastByte := s.osc }).BoundsOk := h.congr rfl rfl rfl rfl
  unfold State.receiveByte
  dsimp only
  split
  · exact hbyte.congr rfl rfl rfl rfl
  · exact hbyte
  · split
    · exact hbyte.frameError false
    · split
      · unfold State.completeFrame
        split
        · obtain ⟨-, herrors⟩ := h
          exact hbyte.withErrors (by simp) (by simp) (by simpa using Nat.le_add_right_of_le herrors)
        · exact hbyte.frameError false
      · exact hbyte.congr rfl rfl rfl rfl

theorem State.BoundsOk.takePart {s : State} (h : s.BoundsOk) (part value : Nat) : (s.takePart part value).2.BoundsOk := by
  have hresume : s.resume.BoundsOk := by
    refine h.withErrors (by simp) ?_ ?_ <;> unfold State.resume <;> dsimp only <;> split <;> simp [State.startStarvation]
  have hfinal : s.finalPart.2.BoundsOk := by
    unfold State.finalPart
    split
    · exact h.congr (by simp) (by simp [State.go, State.startStarvation]) (by simp [State.go, State.startStarvation]) (by simp)
    · exact hresume
    · exact hresume
    all_goals
      split
      · exact h.congr (by simp) (by simp) (by simp) (by simp)
      · exact h.congr (by simp) (by simp) (by simp) (by simp)
  have hwrong : s.wrongPart.BoundsOk := by
    unfold State.wrongPart
    split
    · exact h.congr (by simp) (by simp) (by simp) (by simp)
    · exact h.congr rfl rfl rfl rfl
  unfold State.takePart
  dsimp only
  (repeat' split)
  · exact h
  · exact h
  · exact h
  · exact hwrong
  · exact h.congr rfl rfl rfl rfl
  · exact hfinal

theorem stepWindow_bounds {wcfg target window : Nat} (ht : wcfg ≤ target) (ht' : target ≤ 3600) (hw' : window ≤ 3600) :
    wcfg ≤ stepWindow target window ∧ stepWindow target window ≤ 3600 := by
  unfold stepWindow
  split <;> omega

theorem targetWindow_bounds {r c wcfg guard : Nat} (hw : wcfg ≤ 3600) :
    wcfg ≤ (targetWindow r c wcfg guard).1 ∧ (targetWindow r c wcfg guard).1 ≤ 3600 := by
  by_cases hover : Overloaded r c guard
  · rw [targetWindow_of_overloaded wcfg hover]
    exact ⟨hw, Nat.le_refl _⟩
  · rw [targetWindow_of_not_overloaded wcfg hover]
    dsimp only
    split
    · exact ⟨Nat.le_refl _, hw⟩
    · unfold Overloaded at hover
      omega

theorem State.BoundsOk.windowStep {s : State} (h : s.BoundsOk) (hs : s.SettingsOk) : s.windowStep.BoundsOk := by
  unfold State.windowStep
  split
  · exact h
  · obtain ⟨⟨-, hhi, -, hpacing⟩, herrors⟩ := h
    obtain ⟨hcurrent, -⟩ := hs
    have hwcfg : s.settings.current.windowConfigured ≤ 3600 := by
      unfold Settings.InRange at hcurrent
      omega
    have htarget := targetWindow_bounds (r := s.store.ring.length) (c := s.pacing.capacity)
      (guard := s.settings.current.guard) hwcfg
    have hwindow : s.settings.current.windowConfigured ≤ s.nextWindow ∧ s.nextWindow ≤ 3600 :=
      stepWindow_bounds htarget.1 htarget.2 hhi
    obtain ⟨hslots, hlast, ha16, hcap, -, htotal⟩ := hpacing
    generalize hu : s.withDue { s.due with window := s.due.window - 1 } = u
    have hnext : u.nextWindow = s.nextWindow := by rw [← hu]; rfl
    have hsettings : u.settings = s.settings := by rw [← hu]; rfl
    have hpacing : u.pacing = s.pacing := by rw [← hu]; rfl
    have hlink : u.link = s.link := by rw [← hu]; rfl
    unfold State.BoundsOk State.PacingOk
    rw [State.windowMark_eq, hnext]
    simp only [State.withPacing_pacing, State.withPacing_settings, State.withPacing_link, State.postPacing_frame,
      hsettings, hpacing, hlink]
    exact ⟨⟨hwindow.1, hwindow.2, decide_eq_true_iff, hslots, hlast, ha16, hcap, Nat.zero_le _, htotal⟩, herrors⟩

/-- What a SET does not name stays (R165). -/
theorem writeSetting_keeps (c : Settings) (id v : Nat) :
    (id ≠ 0x07 → (writeSetting c id v).faultLimit = c.faultLimit) ∧
    (id ≠ 0x09 → (writeSetting c id v).windowConfigured = c.windowConfigured) ∧
    (id ≠ 0x10 → (writeSetting c id v).linkThreshold = c.linkThreshold) := by
  unfold writeSetting
  split <;> simp

theorem State.BoundsOk.takeSetting {s : State} (h : s.BoundsOk) {id v : Nat} {a : Admits}
    (ha : settingAdmits s.settings.current id = some a) (hv : a.Holds v) : (s.takeSetting id v).BoundsOk := by
  have ⟨⟨hlo, hhi, hstretched, hslots, hlast, ha16, hcap, hlapses⟩, herrors⟩ := h
  unfold State.takeSetting
  split
  case h_1 =>
    cases ha
    have hwindow : v ≤ max s.pacing.window v ∧ max s.pacing.window v ≤ 3600 := by
      have hrange : 10 ≤ v ∧ v ≤ 600 := hv
      omega
    have hset : State.BoundsOk ((s.withSettings
        { s.settings with
          current := { s.settings.current with
            windowConfigured := v, guard := min s.settings.current.guard (v / 4) } }).withPacing
        { s.pacing with
          window := max s.pacing.window v, stretched := decide (v < max s.pacing.window v) }) :=
      ⟨⟨hwindow.1, hwindow.2, decide_eq_true_iff, hslots, hlast, ha16, hcap, hlapses⟩, herrors⟩
    rw [State.setWindow_eq]
    (repeat' split)
    · exact hset.congr (by simp) (by simp) (by simp) (by simp)
    · exact hset.congr (by simp) (by simp) (by simp) (by simp)
    · exact hset
  case h_2 => exact h.congr rfl rfl rfl rfl
  case h_3 =>
    cases ha
    exact ⟨⟨hlo, hhi, hstretched, hslots, hlast, ha16, capacityOf_le ha16 hv.2, hlapses⟩, herrors⟩
  case h_4 => exact ⟨⟨hlo, hhi, hstretched, hslots, hlast, ha16, hcap, hlapses⟩, Nat.min_le_right _ _⟩
  case h_5 => exact h.congr rfl rfl rfl rfl
  case h_6 hwindow _ _ hthreshold _ =>
    obtain ⟨-, hw, hl⟩ := writeSetting_keeps s.settings.current id v
    exact h.congr rfl (hw hwindow) (hl hthreshold) rfl

/-- A reset leaves W_eff at W_cfg without lapses, and nothing measured that was out of its bounds. -/
theorem State.BoundsOk.reset {s t : State} (h : s.BoundsOk) (hc : t.settings.current.InRange)
    (hp : t.pacing = .start t.settings.current.windowConfigured ∨
      t.pacing = { s.pacing with
        window := t.settings.current.windowConfigured, stretched := false, overload := false, lapses := 0,
        lapseTotal := 0 })
    (he : t.link.errors ≤ t.settings.current.linkThreshold) : t.BoundsOk := by
  obtain ⟨⟨-, -, -, hslots, hlast, ha16, hcap, -⟩, -⟩ := h
  have hwcfg : t.settings.current.windowConfigured ≤ 3600 := by
    unfold Settings.InRange at hc
    omega
  unfold State.BoundsOk State.PacingOk
  rcases hp with hp | hp <;> rw [hp]
  · exact ⟨⟨Nat.le_refl _, hwcfg, by simp [Pacing.start], Nat.zero_le _, Nat.zero_le _, Nat.zero_le _, Nat.zero_le _,
      Nat.zero_le _, Nat.zero_le _⟩, he⟩
  · exact ⟨⟨Nat.le_refl _, hwcfg, by simp, hslots, hlast, ha16, hcap, Nat.zero_le _, Nat.zero_le _⟩, he⟩

@[simp] theorem State.enterConfiguring_pacing_link (s : State) :
    s.enterConfiguring.pacing = s.pacing ∧ s.enterConfiguring.link = s.link := ⟨rfl, rfl⟩

theorem State.resetTables_pacing (s : State) :
    s.resetTables.pacing =
      { s.pacing with
        window := s.settings.current.windowConfigured, stretched := false, overload := false, lapses := 0,
        lapseTotal := 0 } := rfl

theorem State.start_pacing (s : State) (port : Port) :
    (s.start port).pacing = .start (s.start port).settings.current.windowConfigured ∧ (s.start port).link.errors = 0 := by
  unfold State.start
  dsimp only
  split <;> simp [Link.start]

theorem State.BoundsOk.resetTables {s : State} (h : s.BoundsOk) (hs : s.SettingsOk) : s.resetTables.BoundsOk := by
  obtain ⟨hcurrent, -⟩ := hs
  have ⟨_, herrors⟩ := h
  exact h.reset (by simpa using hcurrent) (.inr (by rw [State.resetTables_pacing]; simp)) (by simpa using herrors)

theorem State.BoundsOk.start {s u : State} (h : u.BoundsOk) (hs : ∀ c, s.settings.stored = some c → c.InRange)
    (port : Port) : (s.start port).BoundsOk := by
  obtain ⟨hcurrent, -⟩ := State.SettingsOk.start hs port
  obtain ⟨hpacing, herrors⟩ := s.start_pacing port
  exact h.reset hcurrent (.inl hpacing) (by omega)

theorem State.BoundsOk.release {s : State} (h : s.BoundsOk) (hs : s.SettingsOk) (p q : Bool) :
    (s.release p q).BoundsOk := by
  obtain ⟨-, hstored, -⟩ := hs.endActivity
  unfold State.release
  refine h.start ?_ _
  exact hstored

theorem State.BoundsOk.rule {s : State} (h : s.BoundsOk) (hs : s.SettingsOk) {c : Instr} {rule : State → Answer}
    (hc : linkRule c = some rule) : (rule s).2.BoundsOk := by
  cases c <;> cases hc
  case set hd id value =>
    obtain ⟨hcurrent, -⟩ := hs
    rcases setRule_cases hcurrent id value with heq | ⟨a, v, ha, hv, heq⟩ <;> rw [heq]
    · exact h
    · exact h.takeSetting ha hv
  case keepalive hd part value => exact h.takePart part.toNat value.toNat
  case saveSettings => exact h.congr rfl rfl rfl rfl
  case maintenanceEnter =>
    unfold maintenanceEnterRule
    (repeat' split)
    · exact h
    · exact h
    · exact h.congr rfl rfl rfl rfl
  case maintenanceExit => exact h.congr rfl rfl rfl rfl
  case batchOpen => 
    unfold batchOpenRule
    split
    · exact h
    · exact h.congr rfl rfl rfl rfl
  case batchData =>
    unfold batchDataRule
    split
    · exact h
    · exact h.congr rfl rfl rfl rfl
  case batchEnd =>
    unfold batchEndRule
    split
    · exact h.congr rfl rfl rfl rfl
    · exact h
  case resetTables =>
    unfold resetTablesRule
    split
    · exact h
    · exact h.congr rfl rfl rfl rfl
  case resetFull => exact h.congr rfl rfl rfl rfl
  all_goals exact h.congr (by simp) (by simp) (by simp) (by simp)

/-- The conditions of the settings and of the bounds together, which settling keeps. -/
theorem State.bounded_keptBySettling : KeptBySettling fun s => s.SettingsOk ∧ s.BoundsOk where
  link _ _ he _ h := ⟨h.1.same rfl, h.2.congr rfl rfl rfl he⟩
  item _ _ _ h := ⟨h.1.same (by simp), h.2.congr (by simp) (by simp) (by simp) (by simp)⟩
  write s snapshot left hw h := ⟨State.settingsOk_keptBySettling.write s snapshot left hw h.1, h.2.congr rfl rfl rfl rfl⟩
  attn _ h := ⟨h.1.same (by simp), h.2.congr (by simp) (by simp) (by simp) (by simp)⟩
  reset s form hdue h := by
    refine ⟨State.settingsOk_keptBySettling.reset s form hdue h.1, ?_⟩
    cases form with
    | tables => exact (h.2.resetTables h.1).congr rfl rfl rfl rfl
    | full =>
      obtain ⟨⟨-, hstored, -⟩, hbounds⟩ := h
      exact hbounds.start hstored _

/-- A source leaves the Pacing Unit as it is, or counts a lapse at an emission (R88). -/
theorem State.takeSource_pacing (s : State) (x : Source) :
    (s.takeSource x).2.pacing = s.pacing ∨ (s.takeSource x).2.pacing = s.pacing.countLapse := by
  unfold State.takeSource
  split
  · unfold State.emit
    dsimp only
    split
    · exact .inr (by simp)
    · exact .inl (by simp)
  · exact .inl rfl
  · exact .inl (by simp)
  · exact .inl rfl

/-- A grant that is answered has been counted, is the last answered one, and feeds the starvation timer (R95, R97). -/
def State.granted (s : State) (us : Nat) : State :=
  (s.withPacing { s.pacing with slotCount := min 5000 (s.pacing.slotCount + 1) }).withPort
    (Port.fed { s.port with lastGrant := some us } s.sup.mode.ranked)

theorem State.answerGrant_eq (s : State) (us : Nat) :
    s.answerGrant us =
      ((s.granted us).takeSource (s.granted us).source).2.loadFrame ((s.granted us).takeSource (s.granted us).source).1 :=
  rfl

theorem State.BoundsOk.takeSource {s : State} (h : s.BoundsOk) (x : Source) : (s.takeSource x).2.BoundsOk := by
  rcases s.takeSource_pacing x with hp | hp
  · exact h.congr hp (by simp) (by simp) (by simp)
  · obtain ⟨⟨hlo, hhi, hstretched, hslots, hlast, ha16, hcap, -⟩, herrors⟩ := h
    have hlapsed : State.BoundsOk (s.withPacing s.pacing.countLapse) :=
      ⟨⟨hlo, hhi, hstretched, hslots, hlast, ha16, hcap, Nat.min_le_left _ _, Nat.min_le_left _ _⟩, herrors⟩
    exact hlapsed.congr hp (by simp) (by simp) (by simp)

theorem State.BoundsOk.answerGrant {s : State} (h : s.BoundsOk) (us : Nat) : (s.answerGrant us).BoundsOk := by
  obtain ⟨⟨hlo, hhi, hstretched, -, hlast, ha16, hcap, hlapses⟩, herrors⟩ := h
  have hgranted : (s.granted us).BoundsOk :=
    ⟨⟨hlo, hhi, hstretched, Nat.min_le_left _ _, hlast, ha16, hcap, hlapses⟩, herrors⟩
  rw [State.answerGrant_eq]
  exact (hgranted.takeSource (s.granted us).source).congr rfl rfl rfl rfl

theorem State.BoundsOk.ownRow {s : State} (h : s.BoundsOk) (hs : s.SettingsOk) {c : Instr} {f : State → State}
    (hc : ownRow c = some f) : (f s).BoundsOk := by
  cases c <;> cases hc
  case saveSettingsWriteComplete => exact (State.bounded_keptBySettling.completeWrite s ⟨hs, h⟩).2
  case batchItem => exact (State.bounded_keptBySettling.takeItem s ⟨hs, h⟩).2
  case replySent => exact (State.bounded_keptBySettling.sendDone s ⟨hs, h⟩).2
  case resetTablesActs => exact (h.resetTables hs).congr rfl rfl rfl rfl
  case resetFullActs =>
    obtain ⟨-, hstored, -⟩ := hs
    exact h.start hstored _
  case configuringWindowExpiry =>
    unfold State.windowExpired
    split
    · exact (h.resetTables hs).congr (by simp) (by simp) (by simp) (by simp)
    · exact h
  case frameCompletes b => exact h.receiveByte b
  case lenOutOfRange b => exact h.receiveByte b
  case byteReceived b => exact h.receiveByte b
  case byteGapExpiry =>
    unfold State.gapPassed
    split
    · exact h.frameError true
    · exact h
  case huntArmed =>
    unfold State.armHunt
    split
    · exact h.congr rfl rfl rfl rfl
    · exact h
  case windowStep => exact h.windowStep hs
  case announceIntervalCheck =>
    obtain ⟨d, x, a, heq⟩ := s.announceCheck_eq
    exact heq ▸ h.congr rfl rfl rfl rfl
  case rateInterval =>
    obtain ⟨⟨hlo, hhi, hstretched, hslots, -, ha16, -, hlapses⟩, herrors⟩ := h
    obtain ⟨hcurrent, -⟩ := hs
    have hshare : s.settings.current.refreshShare ≤ 90 := by
      unfold Settings.InRange at hcurrent
      omega
    have ha := nextA16_le (seeded := s.pacing.seeded) ha16 hslots
    exact ⟨⟨hlo, hhi, hstretched, Nat.zero_le _, hslots, ha, capacityOf_le ha hshare, hlapses⟩, herrors⟩
  case slotGrant us =>
    dsimp only
    split
    · exact h.answerGrant us
    · exact h
  case periodTimerExpiry =>
    unfold State.periodElapsed
    split
    · exact h.congr (by simp) (by simp) (by simp) (by simp)
    · exact h
  case batchIdleTimeout => exact h.congr rfl rfl rfl (by simp)
  case holdExpires => exact h.congr rfl rfl rfl rfl
  case frameClock => exact h.congr rfl rfl rfl rfl
  all_goals exact h.congr (by simp) (by simp) (by simp) (by simp)

theorem State.BoundsOk.pinRow {s : State} (h : s.BoundsOk) (hs : s.SettingsOk) {c : Instr} {f : State → State}
    (hc : pinRow c = some f) : (f s).BoundsOk := by
  cases c <;> cases hc
  case powerOn p q => exact h.release hs p q
  case resetLine p q =>
    dsimp only
    split
    · exact h
    · exact h.release hs p q
  case resetLineAsserted =>
    unfold State.holdInReset
    split
    · exact h
    · exact h.congr rfl rfl rfl rfl
  case cuePinChange => exact h.congr (by simp) (by simp) (by simp) (by simp)
  case powerLoss => exact h.congr rfl rfl rfl rfl

theorem State.bounded_invariant : Invariant fun s => s.SettingsOk ∧ s.BoundsOk where
  command _ :=
    { settling := State.bounded_keptBySettling
      weaken := fun _ h => h
      reply := fun _ _ _ _ _ h => ⟨h.1.same rfl, h.2.congr rfl rfl rfl rfl⟩
      rule := fun _ hc _ _ _ h => ⟨h.1.rule hc, h.2.rule h.1 hc⟩
      own := fun _ hc _ _ h => ⟨h.1.ownRow hc, h.2.ownRow h.1 hc⟩
      pin := fun _ hc _ h => ⟨h.1.pinRow hc, h.2.pinRow h.1 hc⟩ }
  queue _ _ h := ⟨h.1.same rfl, h.2.congr rfl rfl rfl rfl⟩
  choice _ _ h := ⟨h.1.same rfl, h.2.congr rfl rfl rfl rfl⟩
  tick _ _ h := ⟨h.1.tick, h.2⟩

/-- Settles O54: with the settings in range each row keeps the bounds. -/
theorem stepsKeepPacingInBounds : Obligations.StepsKeepPacingInBounds := by
  intro s t hsettings hpacing herrors hstep
  obtain ⟨hsettings', hpacing', herrors'⟩ := State.bounded_invariant.step hstep ⟨hsettings, hpacing, herrors⟩
  exact ⟨hsettings', hpacing', herrors'⟩

end Sys2Proof.Machine
end

section
/-! PROOF. The Supervision Unit: mode, timers, challenge, collection and fault count stay consistent along every step
(R97, R148 to R162). -/

namespace Sys2Proof.Machine

/-! ### What the condition reads -/

/-- The port watches for starvation: the timer runs or the starved condition holds (R97). -/
def Port.Watches (p : Port) : Prop := p.starvation.isSome = true ∨ p.starved = true

theorem State.SupervisionOk.congr {s t : State} (h : s.SupervisionOk) (hr : t.run = s.run) (hs : t.sup = s.sup)
    (hf : t.settings.current.faultLimit = s.settings.current.faultLimit)
    (hp : t.settings.inForce.partsCount = s.settings.inForce.partsCount) (hw : t.port.Watches ↔ s.port.Watches) :
    t.SupervisionOk := by
  obtain ⟨hfaults, hlo, hhi, hcollection, hwindow, hquiet, hruns⟩ := h
  unfold Port.Watches at hw
  unfold State.SupervisionOk
  rw [hr, hs, hf, hp, hw]
  exact ⟨hfaults, hlo, hhi, hcollection, hwindow, hquiet, hruns⟩

/-- A part that stops running keeps its Supervision Unit, its three timers stopped (R96, R167). -/
theorem State.SupervisionOk.stopped {s t : State} (h : s.SupervisionOk) (hr : t.run ≠ .running)
    (hs : t.sup = { s.sup with period := none, configTimer := none, quiet := none })
    (hf : t.settings.current.faultLimit = s.settings.current.faultLimit)
    (hp : t.settings.inForce.partsCount = s.settings.inForce.partsCount) : t.SupervisionOk := by
  obtain ⟨hfaults, hlo, hhi, hcollection, hwindow, -, -⟩ := h
  unfold State.SupervisionOk
  rw [hs, hf, hp]
  exact ⟨hfaults, hlo, hhi, hcollection, hwindow, nofun, fun hrun => absurd hrun hr⟩

/-- A window is in force in SERVING alone (R153). -/
theorem windowOf_serving {c : Settings} {m : Mode} (h : windowOf c m = true) : m = .serving := by
  unfold windowOf at h
  simp only [Bool.and_eq_true, decide_eq_true_eq] at h
  exact h.1

/-- The starvation timer is watched in every supervised mode (R97). -/
theorem watched_of_supervised {p : Prop} {m : Mode} (h : p ↔ m = .serving ∨ m = .maintenance ∨ m = .holdover)
    (hm : m = .serving ∨ m = .maintenance) : p :=
  h.mpr (hm.elim .inl fun hm => .inr (.inl hm))

/-! ### STANDDOWN and HOLDOVER (R157, R160, R161) -/

theorem State.SupervisionOk.enterStanddown {s : State} (h : s.SupervisionOk) (hrun : s.run = .running)
    (hm : s.sup.mode = .holdover) (byCue : Bool) : (s.enterStanddown byCue).SupervisionOk := by
  obtain ⟨hfaults, hlo, hhi, hcollection, hwindow, -, hruns⟩ := h
  obtain ⟨hperiod, hconfig, -⟩ := hruns hrun
  rw [hm] at hwindow hperiod hconfig
  refine State.SupervisionOk.congr
    (s := (s.withSup { s.sup with mode := .standdown, quiet := none }).withPort
      { s.port with starvation := none, starved := false }) ?_ (by simp [State.enterStanddown])
    (by simp [State.enterStanddown]) (by simp) (by simp) (by simp [State.enterStanddown])
  refine ⟨hfaults, hlo, hhi, hcollection, fun hon => absurd (hwindow hon) (by simp), nofun, fun _ => ?_⟩
  simp at hperiod hconfig ⊢
  exact ⟨hperiod, hconfig⟩

/-- The entry to HOLDOVER from a supervised mode. -/
theorem HoldoverEntered.supervisionOk {s t : State} {byLink : Bool} (he : HoldoverEntered s t byLink)
    (hs : s.SettingsOk) (h : s.SupervisionOk) (hrun : s.run = .running) (hm : s.sup.mode = .serving ∨ s.sup.mode = .maintenance) :
    t.SupervisionOk := by
  obtain ⟨hsup, -, hport, -, -, hframe⟩ := he
  obtain ⟨-, hlo, hhi, -, -, hquiet, hruns⟩ := h
  obtain ⟨-, hconfig, hwatch⟩ := hruns hrun
  have hr : t.run = s.run := by rw [hframe]
  have hsettings : t.settings = s.settings := by rw [hframe]
  have hlimit : 0 < s.settings.current.faultLimit := by
    obtain ⟨hcurrent, -⟩ := hs
    unfold Settings.InRange at hcurrent
    omega
  have hparts : 0 < s.settings.inForce.partsCount := by
    obtain ⟨-, -, -, hparts⟩ := hs
    omega
  have hno : s.sup.quiet = none := by
    cases hq : s.sup.quiet with
    | none => rfl
    | some n =>
      rw [hq] at hquiet
      rcases hm with hm | hm <;> simp [hm] at hquiet
  have hstopped : s.sup.configTimer = none := by
    rcases hm with hm | hm <;> simpa [hm] using hconfig
  have hwatched : s.port.starvation.isSome = true ∨ s.port.starved = true := watched_of_supervised hwatch hm
  unfold State.SupervisionOk
  rw [hr, hsettings, hsup, hport]
  refine ⟨hlimit, hlo, hhi, hparts, nofun, ?_, fun _ => ?_⟩
  · by_cases hpolicy : s.sup.policy = .quietStanddown <;> simp [hpolicy, hno]
  · by_cases hdown : s.sup.policy = .cueStanddown ∧ s.cues.asserted = true
    · simp [hdown, hstopped]
    · simp [hdown, hstopped, hwatched]

/-- A counted fault in a supervised mode (R153, R154). -/
theorem FaultCounted.supervisionOk {s t : State} {cause : FaultCause} (hc : FaultCounted s t cause)
    (hs : s.SettingsOk) (h : s.SupervisionOk) (hrun : s.run = .running) (hm : s.sup.mode = .serving ∨ s.sup.mode = .maintenance) :
    t.SupervisionOk := by
  obtain ⟨hbelow, hlimit⟩ := hc
  rcases Nat.lt_or_ge (s.sup.faults + 1) s.settings.current.faultLimit with hcount | hcount
  · rw [hbelow hcount]
    obtain ⟨-, hlo, hhi, -, -, hquiet, hruns⟩ := h
    have hparts : 0 < s.settings.inForce.partsCount := by
      obtain ⟨-, -, -, hparts⟩ := hs
      omega
    refine ⟨hcount, hlo, hhi, hparts, ?_, hquiet, fun _ => ?_⟩
    · exact windowOf_serving
    · obtain ⟨-, hconfig, hwatch⟩ := hruns hrun
      refine ⟨by simpa using hm, hconfig, ?_⟩
      simpa using hwatch
  · refine (hlimit hcount).supervisionOk ?_ ?_ (by simpa using hrun) (by simpa using hm)
    · exact hs.congr (by simp) (by simp) (by simp) (by simp)
    · exact h.congr (by simp) (by simp) (by simp) (by simp) (by simp)

theorem State.SupervisionOk.countFault {s : State} (h : s.SupervisionOk) (hs : s.SettingsOk) (hrun : s.run = .running)
    (hm : s.sup.mode.supervised = true) (cause : FaultCause) : (s.countFault cause).SupervisionOk :=
  (s.countFault_spec cause).supervisionOk hs h hrun (by simpa [Mode.supervised] using hm)

theorem State.SupervisionOk.restartQuiet {s : State} (h : s.SupervisionOk) : s.restartQuiet.SupervisionOk := by
  unfold State.restartQuiet
  split
  next hm =>
    obtain ⟨hfaults, hlo, hhi, hcollection, hwindow, -, hruns⟩ := h
    exact ⟨hfaults, hlo, hhi, hcollection, hwindow, fun _ => hm, hruns⟩
  next => exact h

theorem State.SupervisionOk.frameError {s : State} (h : s.SupervisionOk) (hs : s.SettingsOk) (hrun : s.run = .running)
    (armed : Bool) : (s.frameError armed).SupervisionOk := by
  have hquiet := h.restartQuiet
  unfold State.frameError
  dsimp only
  split
  · exact hquiet.congr rfl rfl rfl rfl Iff.rfl
  · split
    next hm =>
      refine (State.enterHoldover_spec _ _).supervisionOk ?_ ?_ ?_ ?_
      · exact hs.same (by simp)
      · exact hquiet.congr (by simp) (by simp) (by simp) (by simp) (by simp)
      · simpa using hrun
      · simpa [Mode.supervised] using hm
    next => exact hquiet.congr (by simp) (by simp) (by simp) (by simp) (by simp)

theorem State.SupervisionOk.receiveByte {s : State} (h : s.SupervisionOk) (hs : s.SettingsOk) (hrun : s.run = .running)
    (b : Byte) : (s.receiveByte b).SupervisionOk := by
  have hbyte : (s.withLink { s.link with lastByte := s.osc }).SupervisionOk := h.congr rfl rfl rfl rfl Iff.rfl
  have hsettings : (s.withLink { s.link with lastByte := s.osc }).SettingsOk := hs.same rfl
  unfold State.receiveByte
  dsimp only
  split
  · exact hbyte.congr rfl rfl rfl rfl Iff.rfl
  · exact hbyte
  · split
    · exact hbyte.frameError hsettings hrun false
    · split
      · unfold State.completeFrame
        split
        · refine State.SupervisionOk.restartQuiet ?_
          exact h.congr rfl rfl rfl rfl Iff.rfl
        · exact hbyte.frameError hsettings hrun false
      · exact hbyte.congr rfl rfl rfl rfl Iff.rfl

/-! ### The keepalive and MAINTENANCE (R151 to R156, R162) -/

/-- A completed keepalive in a supervised mode: challenge, collection, faults and period start afresh. -/
theorem State.completeKeepalive_sup (s : State) :
    s.completeKeepalive.sup =
      { s.sup with
        challenge := nextChallenge s.sup.challenge (s.draws + 1), collection := 0, faults := 0,
        period := some (periodOf s.settings.current s.sup.mode), windowOn := windowOf s.settings.current s.sup.mode } :=
  rfl

theorem Settings.InRange.limits {c : Settings} (h : c.InRange) : 0 < c.faultLimit ∧ 0 < c.partsCount := by
  unfold Settings.InRange at h
  omega

/-- The Supervision Unit in a supervised mode after a completed keepalive. -/
theorem State.supervisionOk_of_completed {s t : State} (hs : s.settings.current.InRange) {m : Mode}
    (hm : m = .serving ∨ m = .maintenance)
    (hsup : t.sup = { s.sup with
      mode := m, challenge := nextChallenge s.sup.challenge (s.draws + 1), collection := 0, faults := 0,
      period := some (periodOf s.settings.current m), windowOn := windowOf s.settings.current m, configTimer := none,
      quiet := none })
    (hset : t.settings = s.settings.completed) (hw : t.port.Watches) : t.SupervisionOk := by
  obtain ⟨hlimit, hparts⟩ := hs.limits
  obtain ⟨hlo, hhi⟩ := nextChallenge_range s.sup.challenge (s.draws + 1)
  unfold Port.Watches at hw
  unfold State.SupervisionOk
  rw [hsup, hset]
  refine ⟨hlimit, hlo, hhi, hparts, windowOf_serving, nofun, fun _ => ⟨by simpa using hm, ?_, ?_⟩⟩
  · rcases hm with rfl | rfl <;> simp
  · exact iff_of_true hw (hm.elim .inl fun hm => .inr (.inl hm))

theorem State.SupervisionOk.finalPart {s : State} (h : s.SupervisionOk) (hs : s.SettingsOk) (hrun : s.run = .running) :
    s.finalPart.2.SupervisionOk := by
  have ⟨hcurrent, _⟩ := hs
  have ⟨_, _, _, _, _, hquiet, hruns⟩ := h
  obtain ⟨-, hconfig, hwatch⟩ := hruns hrun
  have hno (hm : s.sup.mode ≠ .holdover) : s.sup.quiet = none := by
    cases hq : s.sup.quiet with
    | none => rfl
    | some n => exact absurd (hquiet (by simp [hq])).1 hm
  have hstopped (hm : s.sup.mode ≠ .configuring) : s.sup.configTimer = none := by
    simpa [hm] using hconfig
  have hresume (hm : s.sup.mode = .holdover ∨ s.sup.mode = .standdown) : s.resume.SupervisionOk := by
    refine State.supervisionOk_of_completed hcurrent (.inl rfl) ?_ ?_ ?_
    · have hct := hstopped (by rcases hm with hm | hm <;> simp [hm])
      unfold State.resume
      dsimp only
      split <;> simp [State.startStarvation, State.completeKeepalive_sup, hct]
    · unfold State.resume
      dsimp only
      split <;> simp [State.startStarvation, SettingsStore.completed]
    · unfold State.resume Port.Watches
      dsimp only
      rcases hm with hm | hm
      · simpa [hm] using hwatch.mpr (by simp [hm])
      · simp [hm, State.startStarvation]
  have hserviced (hm : s.sup.mode = .serving ∨ s.sup.mode = .maintenance) :
      (if s.sup.early = true then (Status.faultEarly, s.countFault .early) else (.done, s.completeKeepalive)).2.SupervisionOk := by
    split
    · exact h.countFault hs hrun (by rcases hm with hm | hm <;> simp [hm, Mode.supervised]) _
    · refine State.supervisionOk_of_completed hcurrent hm ?_ rfl ?_
      · have hq := hno (by rcases hm with hm | hm <;> simp [hm])
        have hct := hstopped (by rcases hm with hm | hm <;> simp [hm])
        simp only [State.completeKeepalive_sup, hq, hct]
      · exact watched_of_supervised hwatch hm
  unfold State.finalPart
  split
  next hm =>
    refine State.supervisionOk_of_completed hcurrent (.inl rfl) ?_ ?_ ?_
    · have hq := hno (by simp [hm])
      simp [State.go, State.startStarvation, State.completeKeepalive_sup, hq]
    · simp [State.go, State.startStarvation, SettingsStore.completed]
    · simp [State.go, State.startStarvation, Port.Watches]
  next hm => exact hresume (.inl hm)
  next hm => exact hresume (.inr hm)
  next hm => exact hserviced (.inl hm)
  next hm => exact hserviced (.inr hm)

theorem State.SupervisionOk.takePart {s : State} (h : s.SupervisionOk) (hs : s.SettingsOk) (hrun : s.run = .running)
    (part value : Nat) : (s.takePart part value).2.SupervisionOk := by
  have ⟨hfaults, hlo, hhi, hcollection, hwindow, hquiet, hruns⟩ := h
  unfold State.takePart
  dsimp only
  split
  · exact h
  split
  · exact h
  split
  · exact h
  split
  · unfold State.wrongPart
    split
    next hm => exact h.countFault hs hrun hm _
    next => exact ⟨hfaults, hlo, hhi, Nat.zero_lt_of_lt hcollection, hwindow, hquiet, hruns⟩
  split
  next hpart => exact ⟨hfaults, hlo, hhi, hpart, hwindow, hquiet, hruns⟩
  next => exact h.finalPart hs hrun

/-- A change between SERVING and MAINTENANCE starts a period (R153, R156). -/
theorem State.SupervisionOk.changeMode {s : State} (h : s.SupervisionOk) (hrun : s.run = .running) {m : Mode}
    (hm : m = .serving ∨ m = .maintenance) (hm' : s.sup.mode = .serving ∨ s.sup.mode = .maintenance) :
    (s.changeMode m).SupervisionOk := by
  obtain ⟨hfaults, hlo, hhi, hcollection, -, hquiet, hruns⟩ := h
  obtain ⟨-, hconfig, hwatch⟩ := hruns hrun
  refine ⟨hfaults, hlo, hhi, hcollection, ?_, fun hq => ?_, fun _ => ⟨?_, ?_, ?_⟩⟩
  · exact windowOf_serving
  · obtain ⟨hheld, -⟩ := hquiet hq
    rcases hm' with hm' | hm' <;> cases hm'.symm.trans hheld
  · exact iff_of_true rfl hm
  · have hno : ¬s.sup.configTimer.isSome = true := fun htimer => by
      rcases hm' with hm' | hm' <;> cases hm'.symm.trans (hconfig.mp htimer)
    have hmode : ¬m = .configuring := by rcases hm with rfl | rfl <;> decide
    exact iff_of_false hno hmode
  · have hwatched := watched_of_supervised hwatch hm'
    have hmode : m = .serving ∨ m = .maintenance ∨ m = .holdover := hm.elim .inl fun hm => .inr (.inl hm)
    exact iff_of_true hwatched hmode

/-! ### Slot grants (R97) -/

/-- A grant restarts a watch for starvation and begins none. -/
theorem Port.fed_watches (p : Port) (ranked : Bool) : (p.fed ranked).Watches ↔ p.Watches := by
  unfold Port.fed Port.Watches
  split
  next hwatch =>
    simp only [Bool.and_eq_true, Bool.or_eq_true] at hwatch
    simp [hwatch]
  next => rfl

theorem State.granted_watches (s : State) (us : Nat) :
    (((s.granted us).takeSource (s.granted us).source).2.loadFrame
      ((s.granted us).takeSource (s.granted us).source).1).port.Watches ↔ s.port.Watches := by
  have hkeeps (u : State) (x : Source) (body : Option FrameBody) :
      ((u.takeSource x).2.loadFrame body).port.Watches ↔ u.port.Watches := by
    simp [State.loadFrame, Port.Watches]
  exact (hkeeps _ _ _).trans (Port.fed_watches _ _)

/-! ### Resets (R148, R149, R164) -/

/-- The Supervision Unit on entry to CONFIGURING, the port not watching for starvation. -/
theorem State.supervisionOk_of_configuring {s t : State} (hs : s.settings.current.InRange)
    (hsup : t.sup = { s.sup with
      mode := .configuring, challenge := nextChallenge s.sup.challenge (s.draws + 1), collection := 0, faults := 0,
      period := none, windowOn := false, configTimer := some (s.settings.current.configWindow * 1000), quiet := none })
    (hc : t.settings.current = s.settings.current)
    (hparts : t.settings.inForce.partsCount = s.settings.current.partsCount) (hw : ¬t.port.Watches) :
    t.SupervisionOk := by
  obtain ⟨hlimit, hpositive⟩ := hs.limits
  obtain ⟨hlo, hhi⟩ := nextChallenge_range s.sup.challenge (s.draws + 1)
  unfold Port.Watches at hw
  unfold State.SupervisionOk
  rw [hsup, hc, hparts]
  exact ⟨hlimit, hlo, hhi, hpositive, nofun, nofun, fun _ => ⟨by simp, by simp, by simpa using hw⟩⟩

theorem State.resetTables_supervisionOk {s : State} (hs : s.SettingsOk) : s.resetTables.SupervisionOk := by
  obtain ⟨hcurrent, -⟩ := hs
  exact State.supervisionOk_of_configuring hcurrent rfl rfl rfl (by
    change ¬Port.Watches { s.port with starvation := none, starved := false }
    simp [Port.Watches])

/-- A start up to its entry to CONFIGURING: the settings loaded, everything else as at power-on (R164). -/
def State.loaded (s : State) (port : Port) : State :=
  let c := s.settings.stored.getD .defaults
  let s := (s.withSettings ⟨c, .ofSettings c, s.settings.stored, none⟩).emptyTables
  { s with
    run := .running, clock := .start, pacing := .start c.windowConfigured, arbiter := .start, port := port,
    link := .start s.osc, notices := .empty }

theorem State.start_eq (s : State) (port : Port) :
    s.start port =
      if s.settings.stored.isNone then (s.loaded port).enterConfiguring.post .settingsDefaulted .none (.quantity 0)
      else (s.loaded port).enterConfiguring := rfl

theorem State.start_supervisionOk {s : State} (h : ∀ c, s.settings.stored = some c → c.InRange) {port : Port}
    (hport : ¬port.Watches) : (s.start port).SupervisionOk := by
  have hload : (s.loaded port).settings.current.InRange := by
    change (s.settings.stored.getD .defaults).InRange
    cases hstored : s.settings.stored with
    | none => exact Settings.defaults_inRange
    | some c => exact h c hstored
  have hentered : (s.loaded port).enterConfiguring.SupervisionOk :=
    State.supervisionOk_of_configuring hload rfl rfl rfl hport
  rw [State.start_eq]
  split
  · exact hentered.congr (by simp) (by simp) (by simp) (by simp) (by simp)
  · exact hentered

theorem State.SupervisionOk.release {s : State} (hs : s.SettingsOk) (p q : Bool) : (s.release p q).SupervisionOk := by
  obtain ⟨-, hstored, -⟩ := hs.endActivity
  unfold State.release
  refine State.start_supervisionOk ?_ (by simp [Port.Watches, Port.start])
  exact hstored

theorem State.resetFullActs_supervisionOk {s : State} (hs : s.SettingsOk) : s.resetFullActs.SupervisionOk := by
  obtain ⟨-, hstored, -⟩ := hs
  exact State.start_supervisionOk hstored (by simp [Port.Watches, Port.start])

/-! ### Every step -/

theorem State.supervised_keptBySettling : KeptBySettling fun s => s.SettingsOk ∧ s.SupervisionOk where
  link _ _ _ _ h := ⟨h.1.same rfl, h.2.congr rfl rfl rfl rfl Iff.rfl⟩
  item _ _ _ h := ⟨h.1.same (by simp), h.2.congr (by simp) (by simp) (by simp) (by simp) (by simp)⟩
  write s snapshot left hw h :=
    ⟨State.settingsOk_keptBySettling.write s snapshot left hw h.1, h.2.congr rfl rfl rfl rfl Iff.rfl⟩
  attn _ h := ⟨h.1.same (by simp), h.2.congr (by simp) (by simp) (by simp) (by simp) (by simp)⟩
  reset s form hdue h := by
    refine ⟨State.settingsOk_keptBySettling.reset s form hdue h.1, ?_⟩
    cases form with
    | tables => exact (State.resetTables_supervisionOk h.1).congr rfl rfl rfl rfl Iff.rfl
    | full => exact State.resetFullActs_supervisionOk h.1

theorem State.SupervisionOk.takeSetting {s : State} (h : s.SupervisionOk) {id v : Nat} {a : Admits}
    (ha : settingAdmits s.settings.current id = some a) (hv : a.Holds v) : (s.takeSetting id v).SupervisionOk := by
  have ⟨_, hlo, hhi, hcollection, hwindow, hquiet, hruns⟩ := h
  unfold State.takeSetting
  split
  case h_1 => exact h.congr (by simp) (by simp) (by simp [State.setWindow, State.withCurrent]) (by simp [State.setWindow, State.withCurrent]) (by simp)
  case h_2 =>
    cases ha
    exact ⟨hv.1, hlo, hhi, hcollection, hwindow, hquiet, hruns⟩
  case h_6 _ hlimit _ _ _ =>
    obtain ⟨hf, -⟩ := writeSetting_keeps s.settings.current id v
    exact h.congr rfl rfl (hf hlimit) rfl Iff.rfl
  all_goals exact h.congr rfl rfl rfl rfl Iff.rfl

theorem State.SupervisionOk.rule {s : State} (h : s.SupervisionOk) (hs : s.SettingsOk) (hrun : s.run = .running)
    {c : Instr} {rule : State → Answer} (hc : linkRule c = some rule) (hserved : servedIn s.sup.mode c = true) :
    (rule s).2.SupervisionOk := by
  cases c <;> cases hc
  case set hd id value =>
    obtain ⟨hcurrent, -⟩ := hs
    rcases setRule_cases hcurrent id value with heq | ⟨a, v, ha, hv, heq⟩ <;> rw [heq]
    · exact h
    · exact h.takeSetting ha hv
  case keepalive hd part value => exact h.takePart hs hrun part.toNat value.toNat
  case maintenanceEnter hd form =>
    have hm : s.sup.mode = .serving ∨ s.sup.mode = .maintenance := by
      change modeServes s.sup.mode 0x0F = true at hserved
      cases hmode : s.sup.mode <;> rw [hmode] at hserved <;> revert hserved <;> decide
    unfold maintenanceEnterRule
    (repeat' split)
    · exact h
    · exact h
    · exact h.changeMode hrun (.inr rfl) hm
  case maintenanceExit =>
    have hm : s.sup.mode = .maintenance := eq_of_beq hserved
    exact h.changeMode hrun (.inl rfl) (.inr hm)
  case saveSettings => exact h.congr rfl rfl rfl rfl Iff.rfl
  case resetFull => exact h.congr rfl rfl rfl rfl Iff.rfl
  all_goals exact h.congr (by simp) (by simp) (by simp) (by simp) (by simp)

theorem State.SupervisionOk.ownRow {s : State} (h : s.SupervisionOk) (hs : s.SettingsOk) (hrun : s.run = .running)
    {c : Instr} {f : State → State} (hc : ownRow c = some f) : (f s).SupervisionOk := by
  have ⟨hfaults, hlo, hhi, hcollection, hwindow, hquiet, hruns⟩ := h
  cases c <;> cases hc
  case saveSettingsWriteComplete => exact (State.supervised_keptBySettling.completeWrite s ⟨hs, h⟩).2
  case resetTablesActs => exact (State.resetTables_supervisionOk hs).congr rfl rfl rfl rfl Iff.rfl
  case resetFullActs => exact State.resetFullActs_supervisionOk hs
  case configuringWindowExpiry =>
    unfold State.windowExpired
    split
    · exact (State.resetTables_supervisionOk hs).congr (by simp) (by simp) (by simp) (by simp) (by simp)
    · exact h
  case frameCompletes b => exact h.receiveByte hs hrun b
  case lenOutOfRange b => exact h.receiveByte hs hrun b
  case byteReceived b => exact h.receiveByte hs hrun b
  case byteGapExpiry =>
    unfold State.gapPassed
    split
    · exact h.frameError hs hrun true
    · exact h
  case announceIntervalCheck =>
    obtain ⟨d, x, a, heq⟩ := s.announceCheck_eq
    exact heq ▸ h.congr rfl rfl rfl rfl Iff.rfl
  case slotGrant us =>
    dsimp only
    split
    · refine h.congr (by simp) (by simp) (by simp) (by simp) ?_
      rw [State.answerGrant_eq]
      exact s.granted_watches us
    · exact h
  case starvationTimerExpiry =>
    unfold State.starve
    split
    next hwatch =>
      refine h.congr (by simp) (by simp) (by simp) (by simp) ?_
      simp [Port.Watches, hwatch]
    next => exact h
  case settlingTimerExpiry =>
    unfold State.settlingDone
    split
    · dsimp only
      split
      next hm =>
        have hset : (s.withCues { s.cues with asserted := !s.cues.asserted, settling := none }).SupervisionOk :=
          h.congr rfl rfl rfl rfl Iff.rfl
        exact hset.enterStanddown hrun hm.2.1 true
      next => exact h.congr rfl rfl rfl rfl Iff.rfl
    · exact h
  case periodTimerExpiry =>
    unfold State.periodElapsed
    split
    next hm => exact h.countFault hs hrun hm.2 _
    next => exact h
  case quietTimerExpiry =>
    unfold State.quietElapsed
    split
    next hq => exact h.enterStanddown hrun (hquiet hq).1 false
    next => exact h
  case frameClock =>
    refine h.congr rfl rfl rfl rfl ?_
    unfold Port.clock Port.Watches
    dsimp only [State.withPort_port]
    (repeat' split) <;> rfl
  case batchIdleTimeout => exact h.congr rfl rfl rfl rfl Iff.rfl
  case rateInterval => exact h.congr rfl rfl rfl rfl Iff.rfl
  case holdExpires => exact h.congr rfl rfl rfl rfl Iff.rfl
  all_goals exact h.congr (by simp) (by simp) (by simp) (by simp) (by simp)

theorem State.SupervisionOk.pinRow {s : State} (h : s.SupervisionOk) (hs : s.SettingsOk) {c : Instr} {f : State → State}
    (hc : pinRow c = some f) : (f s).SupervisionOk := by
  cases c <;> cases hc
  case powerOn p q => exact State.SupervisionOk.release hs p q
  case resetLine p q =>
    dsimp only
    split
    · exact h
    · exact State.SupervisionOk.release hs p q
  case resetLineAsserted =>
    unfold State.holdInReset
    split
    · exact h
    · exact h.stopped nofun rfl rfl rfl
  case cuePinChange => exact h.congr (by simp) (by simp) (by simp) (by simp) (by simp)
  case powerLoss => exact h.stopped nofun rfl rfl rfl

theorem State.SupervisionOk.tick {s : State} (h : s.SupervisionOk) : s.tick.SupervisionOk := by
  obtain ⟨hfaults, hlo, hhi, hcollection, hwindow, hquiet, hruns⟩ := h
  have hsame {α : Type} (f : α → α) (x : Option α) : (x.map f).isSome = true ↔ x.isSome = true := by
    rw [Option.isSome_map]
  refine ⟨hfaults, hlo, hhi, hcollection, hwindow, fun hq => hquiet ?_, fun hrun => ?_⟩
  · exact (hsame _ _).mp hq
  · obtain ⟨hperiod, hconfig, hwatch⟩ := hruns hrun
    exact ⟨(hsame _ _).trans hperiod, (hsame _ _).trans hconfig, (or_congr (hsame _ _) Iff.rfl).trans hwatch⟩

theorem State.supervised_invariant : Invariant fun s => s.SettingsOk ∧ s.SupervisionOk where
  command _ :=
    { settling := State.supervised_keptBySettling
      weaken := fun _ h => h
      reply := fun _ _ _ _ _ h => ⟨h.1.same rfl, h.2.congr rfl rfl rfl rfl Iff.rfl⟩
      rule := fun _ hc _ hrun hserved h => ⟨h.1.rule hc, h.2.rule h.1 hrun hc hserved⟩
      own := fun _ hc _ hrun h => ⟨h.1.ownRow hc, h.2.ownRow h.1 hrun hc⟩
      pin := fun _ hc _ h => ⟨h.1.pinRow hc, h.2.pinRow h.1 hc⟩ }
  queue _ _ h := ⟨h.1.same rfl, h.2.congr rfl rfl rfl rfl Iff.rfl⟩
  choice _ _ h := ⟨h.1.same rfl, h.2.congr rfl rfl rfl rfl Iff.rfl⟩
  tick _ _ h := ⟨h.1.tick, h.2.tick⟩

/-- Settles O55: each row that touches the Supervision Unit leaves it as its new mode has it. -/
theorem stepsKeepSupervisionConsistent : Obligations.StepsKeepSupervisionConsistent :=
  fun _ _ hsettings h hstep => (State.supervised_invariant.step hstep ⟨hsettings, h⟩).2

end Sys2Proof.Machine
end

section
/-! PROOF. The Mark List: it stays in order with the mark that each event's state needs, so that a firing pass finds every
event in the state its mark names, and a pass ends within its 128 firings (R3, R5, R133 to R135). -/

namespace Sys2Proof.Machine

/-! ### Marks put in their place (R133) -/

theorem insertMark_perm (m : Mark) (l : List Mark) : (insertMark m l).Perm (m :: l) := by
  induction l with
  | nil => exact .refl _
  | cons x l ih =>
    unfold insertMark
    split
    · exact .refl _
    · exact (ih.cons x).trans (.swap m x l)

theorem mem_replaceMark {l : List Mark} {i : Nat} {m : Option Mark} {x : Mark} :
    x ∈ replaceMark l i m ↔ m = some x ∨ (x ∈ l ∧ x.event ≠ i) := by
  cases m with
  | none => simp [replaceMark]
  | some m => simp [replaceMark, mem_insertMark, eq_comm (a := x) (b := m)]

theorem nodup_replaceMark {l : List Mark} {i : Nat} {m : Option Mark} (h : ∀ x, m = some x → x.event = i)
    (hl : (l.map Mark.event).Nodup) : ((replaceMark l i m).map Mark.event).Nodup := by
  have hrest : ((l.filter fun x => x.event != i).map Mark.event).Nodup :=
    (List.Sublist.map Mark.event List.filter_sublist).nodup hl
  cases m with
  | none => exact hrest
  | some m =>
    refine ((insertMark_perm m _).map Mark.event).nodup_iff.mpr ?_
    rw [List.map_cons, List.nodup_cons, h m rfl]
    exact ⟨by simp, hrest⟩

/-- The mark of an event's state is of the kind that the state needs (R5). -/
theorem EventEntry.markFor_kind (e : EventEntry) (i n : Nat) : (e.markFor i n).map Mark.kind = e.state.markKind := by
  unfold EventEntry.markFor EvState.markKind
  split <;> simp_all

/-! ### The condition but for one event -/

/-- `State.MarksOk` but for what it says of event i. -/
def State.MarksOkBut (s : State) (i : Nat) : Prop :=
  s.marks.Pairwise (fun a b => a.before b = true) ∧ (s.marks.map Mark.event).Nodup ∧
  (∀ m ∈ s.marks, m.event ≠ i → ∃ e, s.event? m.event = some e ∧ e.state.markKind = some m.kind) ∧
  (∀ j e k, j ≠ i → s.event? j = some e → e.state.markKind = some k → ∃ m ∈ s.marks, m.event = j) ∧
  (∀ j e, j ≠ i → s.event? j = some e → e.FieldsOk)

theorem State.MarksOk.but {s : State} (h : s.MarksOk) (i : Nat) : s.MarksOkBut i := by
  obtain ⟨hsorted, hnodup, hkind, hmark, hfields⟩ := h
  exact ⟨hsorted, hnodup, fun m hm _ => hkind m hm, fun j e k _ => hmark j e k, fun j e _ => hfields j e⟩

/-- The head mark of the list leaves it. -/
theorem State.MarksOk.tail {s : State} (h : s.MarksOk) {m : Mark} {rest : List Mark} (first : s.marks = m :: rest) :
    (s.withMarks rest).MarksOkBut m.event := by
  obtain ⟨hsorted, hnodup, hkind, hmark, hfields⟩ := h
  rw [first] at hsorted hnodup hkind hmark
  rw [List.map_cons, List.nodup_cons] at hnodup
  refine ⟨(List.pairwise_cons.mp hsorted).2, hnodup.2, fun x hx _ => hkind x (List.mem_cons_of_mem m hx), ?_,
    fun j e _ => hfields j e⟩
  intro j e k hj he hk
  obtain ⟨x, hx, rfl⟩ := hmark j e k he hk
  rcases List.mem_cons.mp hx with rfl | hx
  · exact absurd rfl hj
  · exact ⟨x, hx, rfl⟩

/-- The condition reads the Mark List and the Event Table alone. -/
theorem State.MarksOk.congr {s t : State} (h : s.MarksOk) (hm : t.marks = s.marks) (he : t.events = s.events) :
    t.MarksOk := by
  unfold State.MarksOk State.event?
  rw [hm, he]
  exact h

theorem event?_of_set {s t : State} {i : Nat} {e : EventEntry} (hi : i < s.events.length)
    (he : t.events = s.events.set i (some e)) (j : Nat) : t.event? j = if j = i then some e else s.event? j := by
  rw [← event?_set s i e hi j]
  exact congrArg (fun l : List (Option EventEntry) => l.getD j none) he

/-- Event i takes an entry, its mark being replaced (R5). -/
theorem State.MarksOkBut.place {s t : State} {i : Nat} {e : EventEntry} (h : s.MarksOkBut i) (hi : i < s.events.length)
    (hf : e.FieldsOk) (he : t.events = s.events.set i (some e)) {n : Nat}
    (hm : t.marks = replaceMark s.marks i (e.markFor i n)) : t.MarksOk := by
  obtain ⟨hsorted, hnodup, hkind, hmark, hfields⟩ := h
  have hevent := event?_of_set hi he
  have hown (x : Mark) (hx : e.markFor i n = some x) : x.event = i := e.markFor_event i n x hx
  refine ⟨?_, ?_, ?_, ?_, ?_⟩
  · rw [hm]
    exact pairwise_replaceMark _ _ _ hown hsorted
  · rw [hm]
    exact nodup_replaceMark hown hnodup
  · intro x hx
    rw [hm, mem_replaceMark] at hx
    rw [hevent]
    rcases hx with hx | ⟨hx, hne⟩
    · refine ⟨e, if_pos (hown x hx), ?_⟩
      rw [← e.markFor_kind i n, hx, Option.map_some]
    · rw [if_neg hne]
      exact hkind x hx hne
  · intro j x k hx hk
    simp only [hm, mem_replaceMark]
    rw [hevent] at hx
    split at hx
    next hj =>
      subst hj
      cases hx
      rw [← e.markFor_kind j n, Option.map_eq_some_iff] at hk
      obtain ⟨x, hx, -⟩ := hk
      exact ⟨x, .inl hx, hown x hx⟩
    next hj =>
      obtain ⟨y, hy, rfl⟩ := hmark j x k hj hx hk
      exact ⟨y, .inr ⟨hy, hj⟩, rfl⟩
  · intro j x hx
    rw [hevent] at hx
    split at hx
    · cases hx
      exact hf
    next hj => exact hfields j x hj hx

/-- Event i keeps its state and takes an entry with other fields, its mark being kept. -/
theorem State.MarksOk.reentry {s t : State} {i : Nat} {x e : EventEntry} (h : s.MarksOk) (hx : s.event? i = some x)
    (hs : e.state = x.state) (hf : e.FieldsOk) (he : t.events = s.events.set i (some e)) (hm : t.marks = s.marks) :
    t.MarksOk := by
  obtain ⟨hsorted, hnodup, hkind, hmark, hfields⟩ := h
  have hevent := event?_of_set (s.event?_lt i x hx) he
  refine ⟨hm ▸ hsorted, hm ▸ hnodup, ?_, ?_, ?_⟩
  · intro m hmem
    obtain ⟨y, hy, hk⟩ := hkind m (hm ▸ hmem)
    rw [hevent]
    split
    next hi =>
      rw [hi, hx] at hy
      cases hy
      exact ⟨e, rfl, hs ▸ hk⟩
    next => exact ⟨y, hy, hk⟩
  · intro j y k hy hk
    rw [hevent] at hy
    rw [hm]
    split at hy
    next hj =>
      subst hj
      cases hy
      exact hmark j x k hx (hs ▸ hk)
    next => exact hmark j y k hy hk
  · intro j y hy
    rw [hevent] at hy
    split at hy
    · cases hy
      exact hf
    · exact hfields j y hy

theorem State.MarksOk.fields {s : State} (h : s.MarksOk) {i : Nat} {e : EventEntry} (he : s.event? i = some e) :
    e.FieldsOk := by
  obtain ⟨-, -, -, -, hfields⟩ := h
  exact hfields i e he

/-! ### Transitions (R3 to R13) -/

/-- A transition leaves the present fields as its new state has them. -/
theorem EventEntry.FieldsOk.act {e : EventEntry} (h : e.FieldsOk) {a : Action} {cause : Cause} {seconds ms : Nat}
    {x : EventEntry × Option Nat} (hx : e.act a cause seconds ms = some x) : x.1.FieldsOk := by
  obtain ⟨hkickoff, hfinish, hsuspension, hbefore⟩ := h
  unfold EventEntry.act at hx
  split at hx
  case h_7 hstate =>
    split at hx
    next p hp =>
      cases hx
      have hactual := hkickoff (.inr (.inr hstate))
      rcases hbefore p hp with hb | hb <;> simp [EventEntry.FieldsOk, EventEntry.lengthen, hb, hactual]
    next => cases hx
  case h_10 => split at hx <;> cases hx; simp [EventEntry.FieldsOk]
  all_goals
    cases hx
  all_goals
    simp_all [EventEntry.FieldsOk, EventEntry.lengthen]

theorem State.transition_events (s : State) (i : Nat) (e : EventEntry) (cut : Option Nat) (cause : Cause)
    (hi : i < s.events.length) : (s.transition i e cut cause).events = s.events.set i (some e) := by
  obtain ⟨-, he, -⟩ := s.transition_spec i e cut cause hi
  exact he

theorem State.MarksOkBut.transition {s : State} {i : Nat} (h : s.MarksOkBut i) {e : EventEntry} (hi : i < s.events.length)
    (hf : e.FieldsOk) (cut : Option Nat) (cause : Cause) : (s.transition i e cut cause).MarksOk := by
  refine h.place hi hf (s.transition_events i e cut cause hi) (n := s.settings.current.kickoffTolerance) ?_
  have hset (u : State) (hu : u.events = s.events.set i (some e)) (hmarks : u.marks = s.marks)
      (hsettings : u.settings = s.settings) :
      (u.placeMark i).marks = replaceMark s.marks i (e.markFor i s.settings.current.kickoffTolerance) := by
    rw [State.placeMark_marks u i e ((event?_of_set hi hu i).trans (if_pos rfl)), hmarks, hsettings]
  unfold State.transition
  cases cut with
  | none => simpa using hset (s.withEvents (s.events.set i (some e))) rfl rfl rfl
  | some n => simpa using hset _ (by simp) (by simp) (by simp)

theorem State.MarksOk.requestAction {s t : State} (h : s.MarksOk) {i : Nat} {a : Action} {cause : Cause} {seconds ms : Nat}
    (ht : s.requestAction i a cause seconds ms = some t) : t.MarksOk ∧ t.events.length = s.events.length := by
  unfold State.requestAction at ht
  split at ht
  next e he =>
    obtain ⟨x, hx, rfl⟩ := Option.map_eq_some_iff.mp ht
    have hi := s.event?_lt i e he
    refine ⟨(h.but i).transition hi ((h.fields he).act hx) _ _, ?_⟩
    rw [State.transition_events s i x.1 x.2 cause hi, List.length_set]
  next => cases ht

/-! ### Firings (R134, R135) -/

/-- The state that a mark's kind names has an entry for the mark's transition, and no extension is cut there. -/
theorem EventEntry.act_of_mark {e : EventEntry} {k : MarkKind} (h : e.state.markKind = some k) (now : Nat) :
    ∃ y, e.act k.action .timer now 0 = some (y, none) ∧ entryAfter e k.action now 0 = some (y, none) := by
  cases hs : e.state <;> rw [hs] at h <;> cases h <;> simp [EventEntry.act, entryAfter, MarkKind.action, hs]

/-- A due head mark fires: its event makes the transition that the mark requests. -/
theorem State.fireFirst_spec {s : State} (h : s.MarksOk) {m : Mark} {rest : List Mark} (first : s.marks = m :: rest)
    {now : Nat} (due : m.time ≤ now) :
    ∃ (t : State) (x y : EventEntry), s.fireFirst now = some t ∧ s.event? m.event = some x ∧
      entryAfter x m.kind.action now 0 = some (y, none) ∧ TransitionTo s t m.event y .timer none ∧ t.MarksOk := by
  have ⟨_, _, hkind, _, _⟩ := h
  obtain ⟨x, hx, hk⟩ := hkind m (first ▸ List.mem_cons_self)
  obtain ⟨y, hact, hentry⟩ := EventEntry.act_of_mark hk now
  have hi := s.event?_lt m.event x hx
  have hfired := State.transition_spec (s.withMarks rest) m.event y none .timer hi
  have hmarks := (h.tail first).transition hi ((h.fields hx).act hact) none .timer
  refine ⟨(s.withMarks rest).transition m.event y none .timer, x, y, ?_, hx, hentry, ?_, hmarks⟩
  · unfold State.fireFirst
    rw [first]
    dsimp only
    have hx' : (s.withMarks rest).event? m.event = some x := hx
    rw [if_pos due, State.requestAction, hx']
    simp only [hact, Option.map_some, Option.getD_some]
  · obtain ⟨hevent, hevents, hmark, hothers, hsorted, hreport, hasked, hnotices, hframe⟩ := hfired
    refine ⟨hevent, hevents, hmark, ?_, fun hs => hsorted ?_, ?_, hasked, ?_, hframe⟩
    · rw [hothers, first]
      simp
    · rw [first] at hs
      exact (List.pairwise_cons.mp hs).2
    · obtain ⟨hproducts, hwalker, hchoices⟩ := hreport
      obtain ⟨hp, hw, hc⟩ := State.reportEvent_congr
        ((s.withMarks rest).withEvents ((s.withMarks rest).transition m.event y none .timer).events)
        (s.withEvents ((s.withMarks rest).transition m.event y none .timer).events) m.event rfl rfl rfl rfl rfl
      exact ⟨hproducts.trans hp, hwalker.trans hw, hchoices.trans hc⟩
    · exact hnotices.trans (State.post_notices_congr _ _ _ _ _ rfl rfl rfl)

theorem State.fireFirst_none {s : State} {now : Nat} (h : ∀ m ∈ s.marks, now < m.time) : s.fireFirst now = none := by
  unfold State.fireFirst
  split
  · rfl
  next m rest first =>
    have := h m (first ▸ List.mem_cons_self)
    rw [if_neg (by omega)]

/-- Where the head mark's time is not reached, no mark's is (R133). -/
theorem State.MarksOk.not_due {s : State} (h : s.MarksOk) {now : Nat}
    (hhead : ∀ m, s.marks.head? = some m → now < m.time) : ∀ m ∈ s.marks, now < m.time := by
  obtain ⟨hsorted, -⟩ := h
  intro m hm
  match hl : s.marks with
  | [] => simp [hl] at hm
  | x :: rest =>
    rw [hl] at hm hsorted hhead
    have hx := hhead x rfl
    rcases List.mem_cons.mp hm with rfl | hm
    · exact hx
    · have hbefore := (List.pairwise_cons.mp hsorted).1 m hm
      simp only [Mark.before, Bool.or_eq_true, Bool.and_eq_true, decide_eq_true_eq, beq_iff_eq] at hbefore
      omega

/-! ### The end of a pass -/

/-- The transitions that marks may still bring an event: four from PLANNED on, none from CLOSED, VOID and SUSPENDED. -/
def EvState.stagesLeft : EvState → Nat
  | .planned => 4
  | .onSale => 3
  | .live | .overtime => 2
  | .ended => 1
  | .suspended | .closed | .void => 0

def entryStagesLeft : Option EventEntry → Nat
  | some e => e.state.stagesLeft
  | none => 0

def State.stagesLeft (s : State) : Nat := (s.events.map entryStagesLeft).sum

theorem entryStagesLeft_le (x : Option EventEntry) : entryStagesLeft x ≤ 4 := by
  unfold entryStagesLeft EvState.stagesLeft
  (repeat' split) <;> omega

/-- The marks bring the events at most 4 transitions each (R134). -/
theorem State.stagesLeft_le (s : State) : s.stagesLeft ≤ 4 * s.events.length := by
  unfold State.stagesLeft
  induction s.events with
  | nil => exact Nat.le_refl 0
  | cons x events ih =>
    have hx := entryStagesLeft_le x
    rw [List.map_cons, List.sum_cons, List.length_cons]
    omega

theorem sum_map_set_lt {α : Type} (f : α → Nat) (l : List α) (i : Nat) (x y : α) (hx : l[i]? = some x) (h : f y < f x) :
    ((l.set i y).map f).sum < (l.map f).sum := by
  induction l generalizing i with
  | nil => simp at hx
  | cons a l ih =>
    cases i with
    | zero =>
      cases hx
      simpa using h
    | succ i => simpa using ih i (by simpa using hx)

/-- A mark's transition leaves its event one transition fewer. -/
theorem EventEntry.stagesLeft_of_mark {x y : EventEntry} {k : MarkKind} {now : Nat} (hk : x.state.markKind = some k)
    (h : entryAfter x k.action now 0 = some (y, none)) : y.state.stagesLeft < x.state.stagesLeft := by
  cases hs : x.state <;> rw [hs] at hk <;> cases hk <;> simp [entryAfter, MarkKind.action, hs] at h <;> subst h <;>
    simp [EvState.stagesLeft]

/-- A pass of at most n firings ends with no mark due, if fewer transitions than n are left to the events. -/
theorem State.runPass_spec (n now : Nat) (s : State) (h : s.MarksOk) (hn : s.stagesLeft < n) :
    FiringPass now s (State.runPass n now s) ∧ (State.runPass n now s).MarksOk ∧
    ∀ m ∈ (State.runPass n now s).marks, now < m.time := by
  induction n generalizing s with
  | zero => omega
  | succ n ih =>
    by_cases hhead : ∀ m, s.marks.head? = some m → now < m.time
    · have hnone := h.not_due hhead
      rw [State.runPass, State.fireFirst_none hnone]
      exact ⟨.ended s hnone, h, hnone⟩
    · obtain ⟨m, hm, due⟩ : ∃ m, s.marks.head? = some m ∧ m.time ≤ now := by
        simpa using hhead
      obtain ⟨rest, first⟩ := List.head?_eq_some_iff.mp hm
      obtain ⟨t, x, y, hfire, hx, hentry, hfired, hmarks⟩ := State.fireFirst_spec h first due
      have ⟨_, hevents, _⟩ := hfired
      have hleft : t.stagesLeft < s.stagesLeft := by
        obtain ⟨-, -, hkind, -, -⟩ := h
        obtain ⟨x', hx', hk⟩ := hkind m (first ▸ List.mem_cons_self)
        cases hx.symm.trans hx'
        unfold State.stagesLeft
        rw [hevents]
        refine sum_map_set_lt entryStagesLeft s.events m.event (some x) (some y) ?_ (EventEntry.stagesLeft_of_mark hk hentry)
        have hlt := s.event?_lt m.event x hx
        simpa [State.event?, List.getD_eq_getElem?_getD, List.getElem?_eq_getElem hlt] using hx
      obtain ⟨hpass, hok, hnone⟩ := ih t hmarks (by omega)
      rw [State.runPass, hfire]
      exact ⟨.fires s t _ m rest x y first due hx hentry hfired hpass, hok, hnone⟩

theorem State.firePass_spec (s : State) (now : Nat) (h : s.MarksOk) (hlength : s.events.length = 32) :
    FiringPass now s (s.firePass now) ∧ (s.firePass now).MarksOk ∧ ∀ m ∈ (s.firePass now).marks, now < m.time :=
  State.runPass_spec 129 now s h (by have := s.stagesLeft_le; omega)

theorem FiringPass.events_length {now : Nat} {s t : State} (h : FiringPass now s t) : t.events.length = s.events.length := by
  induction h with
  | ended => rfl
  | fires s u t m rest x y first due entry acts fired goesOn ih =>
    obtain ⟨-, hevents, -⟩ := fired
    rw [ih, hevents, List.length_set]

end Sys2Proof.Machine
end

section
/-! PROOF. Every step keeps the Event Table's 32 entries and the Mark List that they need (R3, R5, R133, R134). -/

namespace Sys2Proof.Machine

/-- The Event Table has its 32 entries, and the Mark List is as they need it. -/
def State.EventsOk (s : State) : Prop := s.events.length = 32 ∧ s.MarksOk

theorem State.EventsOk.congr {s t : State} (h : s.EventsOk) (hm : t.marks = s.marks) (he : t.events = s.events) :
    t.EventsOk := ⟨he ▸ h.1, h.2.congr hm he⟩

theorem State.IsFresh.eventsOk {s : State} (h : s.IsFresh) : s.EventsOk := by
  refine ⟨by rw [h.events]; rfl, ?_⟩
  unfold State.MarksOk
  simp [h.marks, h.event?]

theorem EventEntry.FieldsOk.congr {x e : EventEntry} (h : x.FieldsOk) (hs : e.state = x.state)
    (hk : e.actualKickoff = x.actualKickoff) (hf : e.finish = x.finish) (hp : e.suspension = x.suspension) : e.FieldsOk := by
  unfold EventEntry.FieldsOk
  rwa [hs, hk, hf, hp]

/-- Event i takes an entry with its mark. -/
theorem State.EventsOk.place {s : State} (h : s.EventsOk) {i : Nat} {e : EventEntry} (hi : i < s.events.length)
    (hf : e.FieldsOk) : ((s.withEvents (s.events.set i (some e))).placeMark i).EventsOk := by
  obtain ⟨hlength, hmarks⟩ := h
  refine ⟨by simpa using hlength, (hmarks.but i).place hi hf (by simp) (State.placeMark_marks _ i e ?_)⟩
  exact (event?_set s i e hi i).trans (if_pos rfl)

/-- Event i takes an entry of its state, and keeps its mark. -/
theorem State.EventsOk.reentry {s : State} (h : s.EventsOk) {i : Nat} {x e : EventEntry} (hx : s.event? i = some x)
    (hf : e.FieldsOk) (hs : e.state = x.state) : (s.withEvents (s.events.set i (some e))).EventsOk := by
  obtain ⟨hlength, hmarks⟩ := h
  exact ⟨by simpa using hlength, hmarks.reentry hx hs hf rfl rfl⟩

/-! ### Passes and requests -/

theorem State.EventsOk.firePass {s : State} (h : s.EventsOk) (now : Nat) : (s.firePass now).EventsOk := by
  obtain ⟨hlength, hmarks⟩ := h
  obtain ⟨hpass, hok, -⟩ := s.firePass_spec now hmarks hlength
  exact ⟨hpass.events_length.trans hlength, hok⟩

theorem State.EventsOk.finishPass {s : State} (h : s.EventsOk) : s.finishPass.EventsOk := by
  unfold State.finishPass
  split
  · split
    next now rest _ => exact (h.firePass now).congr rfl rfl
    next => exact h.congr rfl rfl
  · exact h

theorem State.EventsOk.markFiring {s : State} (h : s.EventsOk) : s.markFiring.EventsOk := by
  obtain ⟨hlength, hmarks⟩ := h
  unfold State.markFiring
  split
  · exact ⟨hlength, hmarks⟩
  next now rest _ =>
    split
    · exact ⟨hlength, hmarks.congr rfl rfl⟩
    · cases hl : s.marks with
      | nil =>
        rw [State.fireFirst_none (by simp [hl])]
        exact ⟨hlength, hmarks.congr rfl rfl⟩
      | cons m marks =>
        by_cases due : m.time ≤ now
        · obtain ⟨t, x, y, hfire, -, -, ⟨-, hevents, -⟩, hok⟩ := State.fireFirst_spec hmarks hl due
          have ht : t.EventsOk := ⟨by rw [hevents, List.length_set, hlength], hok⟩
          rw [hfire]
          dsimp only
          split
          · exact ht.congr rfl rfl
          · exact ht.congr rfl rfl
        · rw [State.fireFirst_none (hmarks.not_due (by simp [hl]; omega))]
          exact ⟨hlength, hmarks.congr rfl rfl⟩

theorem State.EventsOk.requestAction {s t : State} (h : s.EventsOk) {i : Nat} {a : Action} {cause : Cause} {seconds ms : Nat}
    (ht : s.requestAction i a cause seconds ms = some t) : t.EventsOk := by
  obtain ⟨hmarks, hlength⟩ := h.2.requestAction ht
  exact ⟨hlength.trans h.1, hmarks⟩

theorem State.EventsOk.cueRequest {s : State} (h : s.EventsOk) (line : Nat) (a : Action) (i seconds ms : Nat) :
    (s.cueRequest line a i seconds ms).EventsOk := by
  unfold State.cueRequest
  split
  · exact h
  · dsimp only
    split
    next t ht => exact h.finishPass.requestAction ht
    next => exact h.finishPass.congr (by simp) (by simp)

/-! ### Lines (R1, R138 to R144) -/

theorem State.EventsOk.refreshKickoffFlag {s : State} (h : s.EventsOk) (i : Nat) : (s.refreshKickoffFlag i).EventsOk := by
  have ⟨_, hmarks⟩ := h
  unfold State.refreshKickoffFlag
  split
  · exact h
  next e he =>
    have hi := s.event?_lt i e he
    have hf : ({ e with cueBound := s.cues.kickoffBound i } : EventEntry).FieldsOk :=
      (hmarks.fields he).congr rfl rfl rfl rfl
    dsimp only
    split
    · exact h.place hi hf
    · exact h.reentry he hf rfl

theorem State.EventsOk.refreshFlags {s : State} (h : s.EventsOk) (events : List (Option Nat)) :
    (s.refreshFlags events).EventsOk := by
  unfold State.refreshFlags
  induction events.filterMap id generalizing s with
  | nil => exact h
  | cons i l ih => exact ih (h.refreshKickoffFlag i)

theorem State.EventsOk.acceptEdge {s : State} (h : s.EventsOk) (n now : Nat) : (s.acceptEdge n now).EventsOk := by
  unfold State.acceptEdge
  dsimp only
  (repeat' split)
  · exact h.congr (by simp) (by simp)
  · refine State.EventsOk.cueRequest ?_ ..
    exact h.congr rfl rfl
  · exact h.congr rfl rfl
  · exact h

theorem State.EventsOk.endCooling {s : State} (h : s.EventsOk) (n : Nat) : (s.endCooling n).EventsOk := by
  unfold State.endCooling
  dsimp only
  (repeat' split)
  · refine State.EventsOk.cueRequest ?_ ..
    exact h.congr rfl rfl
  · exact h.congr rfl rfl
  · exact h

/-! ### Commands on events (R15 to R17, R26) -/

theorem newEvent_fieldsOk (so k e : BitVec 32) (late grace allow : BitVec 16) (cueBound : Bool) :
    (newEvent so k e late grace allow cueBound).FieldsOk := by
  simp [EventEntry.FieldsOk, newEvent]

theorem State.EventsOk.eventRule {s : State} (h : s.EventsOk) (idx : BitVec 8) (so k e : BitVec 32)
    (late grace allow : BitVec 16) : (eventRule idx so k e late grace allow s).2.EventsOk := by
  unfold Machine.eventRule
  split
  · exact h
  next hfields =>
    dsimp only
    split
    · exact h.finishPass
    · have ⟨hlength, hmarks⟩ := h.finishPass
      have hi : idx.toNat < s.finishPass.events.length := by
        simp only [Bool.or_eq_true, decide_eq_true_eq, not_or] at hfields
        omega
      refine ⟨?_, (hmarks.but idx.toNat).transition hi (newEvent_fieldsOk ..) none .command⟩
      change (s.finishPass.transition idx.toNat _ none .command).events.length = 32
      rw [State.transition_events _ _ _ _ _ hi, List.length_set, hlength]

theorem State.EventsOk.eventTimesRule {s : State} (h : s.EventsOk) (idx : BitVec 8) (so k e : BitVec 32) :
    (eventTimesRule idx so k e s).2.EventsOk := by
  unfold Machine.eventTimesRule
  split
  · exact h
  · dsimp only
    split
    · exact h.finishPass
    next x hx =>
      split
      · have ⟨_, hmarks⟩ := h.finishPass
        have hi := s.finishPass.event?_lt _ x hx
        have hf : ({ x with saleOpen := so.toNat, kickoff := k.toNat, nominalEnd := e.toNat } : EventEntry).FieldsOk :=
          (hmarks.fields hx).congr rfl rfl rfl rfl
        refine State.EventsOk.congr (h.finishPass.place hi hf) ?_ ?_
        · simp [plainReply]
        · simp [plainReply]
      · exact h.finishPass

theorem State.EventsOk.blackoutRule {s : State} (h : s.EventsOk) (idx : BitVec 8) (regions : BitVec 64) :
    (blackoutRule idx regions s).2.EventsOk := by
  unfold Machine.blackoutRule
  split
  · exact h
  · dsimp only
    split
    · exact h.finishPass
    next x hx =>
      split
      · exact h.finishPass
      · have ⟨_, hmarks⟩ := h.finishPass
        have hf : ({ x with blackout := regions } : EventEntry).FieldsOk :=
          (hmarks.fields hx).congr rfl rfl rfl rfl
        exact (h.finishPass.reentry hx hf rfl).congr (by simp [plainReply]) (by simp [plainReply])

theorem State.EventsOk.eventActionRule {s : State} (h : s.EventsOk) (a : Action) (idx code : BitVec 8) :
    (eventActionRule a idx code s).2.EventsOk := by
  unfold Machine.eventActionRule
  split
  · exact h
  · dsimp only
    split
    · exact h.finishPass
    · split
      · exact h.finishPass
      next t ht =>
        have ht := h.finishPass.requestAction ht
        split <;> exact ht

theorem State.EventsOk.cueBindRule {s : State} (h : s.EventsOk) (line ev action level : BitVec 8) (debounce : BitVec 16) :
    (cueBindRule line ev action level debounce s).2.EventsOk := by
  unfold Machine.cueBindRule
  (repeat' split)
  · exact h
  · exact h
  · exact h
  · refine State.EventsOk.refreshFlags ?_ _
    exact h.finishPass.congr rfl rfl

theorem State.EventsOk.cueUnbindRule {s : State} (h : s.EventsOk) (line form : BitVec 8) :
    (cueUnbindRule line form s).2.EventsOk := by
  unfold Machine.cueUnbindRule
  split
  · exact h
  · refine State.EventsOk.refreshFlags ?_ _
    exact h.finishPass.congr rfl rfl

/-! ### GO and grants -/

theorem State.EventsOk.takePart {s : State} (h : s.EventsOk) (part value : Nat) : (s.takePart part value).2.EventsOk := by
  unfold State.takePart
  dsimp only
  (repeat' split)
  · exact h
  · exact h
  · exact h
  · exact h.congr (by simp) (by simp)
  · exact h.congr rfl rfl
  · unfold State.finalPart
    split
    · unfold State.go
      dsimp only
      refine State.EventsOk.congr (State.EventsOk.firePass ?_ _) rfl rfl
      exact h.congr rfl rfl
    · exact h.congr (by simp) (by simp)
    · exact h.congr (by simp) (by simp)
    all_goals split <;> exact h.congr (by simp) (by simp)

/-- The head of the announcement list names an entry of the table. -/
theorem State.announceHead_event {s : State} {i : Nat} {e : EventEntry} (h : s.announceHead = some (i, e)) :
    s.event? i = some e := by
  unfold State.announceHead at h
  split at h
  next j rest _ =>
    obtain ⟨x, hx, heq⟩ := Option.map_eq_some_iff.mp h
    cases heq
    exact hx
  next => cases h

/-- An ANNOUNCE source is the head of the announcement list. -/
theorem State.source_announce {s : State} {i : Nat} {e : EventEntry} (h : s.source = .announce i e) :
    s.announceHead = some (i, e) := by
  unfold State.source at h
  (repeat' split at h) <;> cases h
  assumption

theorem State.EventsOk.answerGrant {s : State} (h : s.EventsOk) (us : Nat) : (s.answerGrant us).EventsOk := by
  have hgranted : (s.granted us).EventsOk := h.congr rfl rfl
  rw [State.answerGrant_eq]
  refine State.EventsOk.congr (s := ((s.granted us).takeSource (s.granted us).source).2) ?_ (by simp) (by simp)
  cases hsource : (s.granted us).source with
  | announce i e =>
    have ⟨_, hmarks⟩ := hgranted
    have he := State.announceHead_event (State.source_announce hsource)
    have hf : ({ e with lastAnnounced := some (s.granted us).clock.seconds } : EventEntry).FieldsOk :=
      (hmarks.fields he).congr rfl rfl rfl rfl
    exact (hgranted.reentry he hf rfl).congr (by simp [State.takeSource]) rfl
  | record r => exact hgranted.congr (by simp) (by simp [State.takeSource])
  | time => exact hgranted.congr rfl rfl
  | filler => exact hgranted

/-! ### Every step -/

theorem State.eventsOk_keptBySettling : KeptBySettling State.EventsOk where
  link _ _ _ _ h := h.congr rfl rfl
  item _ _ _ h := h.congr (by simp) (by simp)
  write _ _ _ _ h := h.congr rfl rfl
  attn _ h := h.congr (by simp) (by simp)
  reset s form _ _ := by
    cases form with
    | tables => exact s.resetTablesActs_isFresh.eventsOk
    | full => exact s.resetFullActs_isFresh.eventsOk

theorem State.EventsOk.rule {s : State} (h : s.EventsOk) {c : Instr} {rule : State → Answer}
    (hc : linkRule c = some rule) : (rule s).2.EventsOk := by
  cases c <;> cases hc
  case event => exact h.eventRule ..
  case eventTimes => exact h.eventTimesRule ..
  case blackout => exact h.blackoutRule ..
  case cueBind => exact h.cueBindRule ..
  case cueClearUnbind => exact h.cueUnbindRule ..
  case keepalive hd part value => exact h.takePart part.toNat value.toNat
  case eventActionOpenSale => exact h.eventActionRule ..
  case eventActionKickoff => exact h.eventActionRule ..
  case eventActionOvertime => exact h.eventActionRule ..
  case eventActionSuspend => exact h.eventActionRule ..
  case eventActionResume => exact h.eventActionRule ..
  case eventActionFinish => exact h.eventActionRule ..
  case eventActionVoid => exact h.eventActionRule ..
  case maintenanceExit => exact h.congr rfl rfl
  case status => exact h
  case resetFull => exact h.congr rfl rfl
  all_goals exact h.congr (by simp) (by simp)

theorem State.EventsOk.ownRow {s : State} (h : s.EventsOk) {c : Instr} {f : State → State} (hc : ownRow c = some f) :
    (f s).EventsOk := by
  cases c <;> cases hc
  case resetTablesActs => exact s.resetTablesActs_isFresh.eventsOk
  case resetFullActs => exact s.resetFullActs_isFresh.eventsOk
  case configuringWindowExpiry =>
    by_cases htimer : s.sup.configTimer.isSome = true
    · exact (s.windowExpired_isFresh htimer).eventsOk
    · rwa [State.windowExpired, if_neg htimer]
  case markFiring => exact h.markFiring
  case debounceExpiry n now => exact h.acceptEdge n now
  case coolingTimerExpiry n => exact h.endCooling n
  case slotGrant us =>
    dsimp only
    split
    · exact h.answerGrant us
    · exact h
  case saveSettingsWriteComplete => exact State.eventsOk_keptBySettling.completeWrite s h
  case batchItem => exact State.eventsOk_keptBySettling.takeItem s h
  case replySent => exact State.eventsOk_keptBySettling.sendDone s h
  case announceIntervalCheck =>
    obtain ⟨d, x, a, heq⟩ := s.announceCheck_eq
    exact heq ▸ h.congr rfl rfl
  case batchIdleTimeout => exact h.congr rfl rfl
  case rateInterval => exact h.congr rfl rfl
  case holdExpires => exact h.congr rfl rfl
  case frameClock => exact h.congr rfl rfl
  all_goals exact h.congr (by simp) (by simp)

theorem State.EventsOk.endActivity {s : State} (h : s.EventsOk) : s.endActivity.EventsOk := h.congr (by simp) (by simp)

theorem State.EventsOk.pinRow {s : State} (h : s.EventsOk) {c : Instr} {f : State → State} (hc : pinRow c = some f) :
    (f s).EventsOk := by
  cases c <;> cases hc
  case powerOn p q => exact (s.release_isFresh p q).eventsOk
  case resetLine p q =>
    dsimp only
    split
    · exact h
    · exact (s.release_isFresh p q).eventsOk
  case resetLineAsserted =>
    unfold State.holdInReset
    split
    · exact h
    · exact h.endActivity.congr rfl rfl
  case cuePinChange => exact h.congr (by simp) (by simp)
  case powerLoss => exact h.endActivity.congr rfl rfl

theorem State.eventsOk_invariant : Invariant State.EventsOk where
  command _ :=
    { settling := State.eventsOk_keptBySettling
      weaken := fun _ h => h
      reply := fun _ _ _ _ _ h => h.congr rfl rfl
      rule := fun _ hc _ _ _ h => h.rule hc
      own := fun _ hc _ _ h => h.ownRow hc
      pin := fun _ hc _ h => h.pinRow hc }
  queue _ _ h := h.congr rfl rfl
  choice _ _ h := h.congr rfl rfl
  tick _ _ h := h.congr rfl rfl

/-- Settles O57: a mark is replaced with every change of its event's state, and a firing takes the mark it fires. -/
theorem stepsKeepMarksMatchingStates : Obligations.StepsKeepMarksMatchingStates :=
  fun _ _ hlength hmarks hstep => State.eventsOk_invariant.step hstep ⟨hlength, hmarks⟩

end Sys2Proof.Machine
end

section
/-! PROOF. The Grant Store's operations keep it well formed: key order, capacity, each record in the one list of its place,
the ring in order of due time (R31, R32, R72, R73). -/

namespace Sys2Proof.Machine

/-! ### Service lists (R32) -/

theorem ListHolds.congr {g g' : GrantStore} {l : List Key} {inList : Place → Bool} (hl : ListHolds g l inList)
    (h : ∀ k, (∃ r ∈ g'.records, r.key = k ∧ inList r.place = true) ↔ ∃ r ∈ g.records, r.key = k ∧ inList r.place = true) :
    ListHolds g' l inList :=
  ⟨hl.1, fun k => (hl.2 k).trans (h k).symm⟩

/-- The record of a key leaves the store, and the key leaves the list. -/
theorem ListHolds.without {g g' : GrantStore} {l : List Key} {inList : Place → Bool} (hl : ListHolds g l inList) {k : Key}
    (h : ∀ x, x ∈ g'.records ↔ x ∈ g.records ∧ x.key ≠ k) : ListHolds g' (l.erase k) inList := by
  obtain ⟨hnodup, hmem⟩ := hl
  refine ⟨hnodup.erase k, fun k' => ?_⟩
  rw [hnodup.mem_erase_iff, hmem]
  constructor
  · rintro ⟨hne, r, hr, rfl, hin⟩
    exact ⟨r, (h r).mpr ⟨hr, hne⟩, rfl, hin⟩
  · rintro ⟨r, hr, rfl, hin⟩
    obtain ⟨hr, hne⟩ := (h r).mp hr
    exact ⟨hne, r, hr, rfl, hin⟩

/-- A record of a new key joins the store, and its key joins the tail of its list. -/
theorem ListHolds.joined {g g' : GrantStore} {l : List Key} {inList : Place → Bool} (hl : ListHolds g l inList)
    {r : GrantRecord} (h : ∀ x, x ∈ g'.records ↔ x = r ∨ x ∈ g.records) (hnew : ∀ x ∈ g.records, x.key ≠ r.key) :
    ListHolds g' (if inList r.place then l ++ [r.key] else l) inList := by
  obtain ⟨hnodup, hmem⟩ := hl
  have habsent : r.key ∉ l := fun hin => by
    obtain ⟨x, hx, hkey, -⟩ := (hmem r.key).mp hin
    exact hnew x hx hkey
  refine ⟨?_, fun k => ?_⟩
  · split
    · exact List.nodup_append.mpr ⟨hnodup, List.pairwise_singleton .., by grind⟩
    · exact hnodup
  · simp only [h]
    constructor
    · intro hk
      by_cases hold : k ∈ l
      · obtain ⟨x, hx, hkey, hin⟩ := (hmem k).mp hold
        exact ⟨x, .inr hx, hkey, hin⟩
      · split at hk
        next hin =>
          have hk : k = r.key := by simpa [hold] using hk
          exact ⟨r, .inl rfl, hk.symm, hin⟩
        next => exact absurd hk hold
    · rintro ⟨x, rfl | hx, rfl, hin⟩
      · simp [hin]
      · have hold := (hmem x.key).mpr ⟨x, hx, rfl, hin⟩
        split
        · exact List.mem_append_left _ hold
        · exact hold

/-! ### Key order (R31) -/

theorem Key.before_trans {a b c : Key} (hab : a.before b = true) (hbc : b.before c = true) : a.before c = true := by
  simp only [Key.before, Bool.or_eq_true, Bool.and_eq_true, decide_eq_true_eq, beq_iff_eq] at hab hbc ⊢
  omega

theorem Key.before_of_not {a b : Key} (hne : a ≠ b) (h : ¬a.before b = true) : b.before a = true := by
  have : ¬(a.block = b.block ∧ a.product = b.product) := fun ⟨hblock, hproduct⟩ => hne (by
    cases a
    cases b
    simp_all)
  simp only [Key.before, Bool.or_eq_true, Bool.and_eq_true, decide_eq_true_eq, beq_iff_eq] at h ⊢
  omega

theorem insertRecord_perm (r : GrantRecord) (l : List GrantRecord) : (insertRecord r l).Perm (r :: l) := by
  induction l with
  | nil => exact .refl _
  | cons x l ih =>
    unfold insertRecord
    split
    · exact .refl _
    · exact (ih.cons x).trans (.swap r x l)

theorem mem_insertRecord {r x : GrantRecord} {l : List GrantRecord} : x ∈ insertRecord r l ↔ x = r ∨ x ∈ l :=
  (insertRecord_perm r l).mem_iff.trans List.mem_cons

theorem pairwise_insertRecord {r : GrantRecord} {l : List GrantRecord}
    (hl : l.Pairwise fun a b => a.key.before b.key = true) (hnew : ∀ x ∈ l, x.key ≠ r.key) :
    (insertRecord r l).Pairwise fun a b => a.key.before b.key = true := by
  induction l with
  | nil => exact List.pairwise_singleton ..
  | cons x l ih =>
    obtain ⟨hx, hl⟩ := List.pairwise_cons.mp hl
    unfold insertRecord
    split
    next hbefore =>
      refine List.pairwise_cons.mpr ⟨fun y hy => ?_, List.pairwise_cons.mpr ⟨hx, hl⟩⟩
      rcases List.mem_cons.mp hy with rfl | hy
      · exact hbefore
      · exact Key.before_trans hbefore (hx y hy)
    next hnot =>
      refine List.pairwise_cons.mpr ⟨fun y hy => ?_, ih hl fun y hy => hnew y (List.mem_cons_of_mem x hy)⟩
      rcases mem_insertRecord.mp hy with rfl | hy
      · exact Key.before_of_not (hnew x List.mem_cons_self).symm hnot
      · exact hx y hy

/-- A replaced record keeps the keys of the store. -/
theorem GrantStore.update_keys (g : GrantStore) (r : GrantRecord) :
    (g.update r).records.map GrantRecord.key = g.records.map GrantRecord.key := by
  unfold GrantStore.update
  rw [List.map_map]
  refine List.map_congr_left fun x _ => ?_
  simp only [Function.comp_apply]
  split
  next h => exact h.symm
  next => rfl

theorem GrantStore.move_keys (g : GrantStore) (p : Place) (r : GrantRecord) :
    (g.move p r).records.map GrantRecord.key = g.records.map GrantRecord.key := by
  rw [← g.update_keys r]
  unfold GrantStore.move GrantStore.enlist GrantStore.unlist
  cases p <;> cases r.place <;> rfl

theorem GrantStore.sorted_of_keys {g g' : GrantStore} (h : g'.records.map GrantRecord.key = g.records.map GrantRecord.key)
    (hg : g.records.Pairwise fun a b => a.key.before b.key = true) :
    g'.records.Pairwise fun a b => a.key.before b.key = true := by
  rw [← List.pairwise_map (f := GrantRecord.key) (R := fun a b => a.before b = true)] at hg ⊢
  rwa [h]

theorem GrantStore.mem_update {g : GrantStore} {r r' : GrantRecord} (hr : r ∈ g.records) (hkey : r'.key = r.key)
    (x : GrantRecord) : x ∈ (g.update r').records ↔ x = r' ∨ (x ∈ g.records ∧ x.key ≠ r.key) := by
  simp only [GrantStore.update, List.mem_map]
  constructor
  · rintro ⟨y, hy, rfl⟩
    split
    · exact .inl rfl
    next hne => exact .inr ⟨hy, hkey ▸ hne⟩
  · rintro (rfl | ⟨hx, hne⟩)
    · exact ⟨r, hr, if_pos hkey.symm⟩
    · exact ⟨x, hx, if_neg (hkey ▸ hne)⟩

/-! ### Due times (R72) -/

/-- The due time that a record's place holds. -/
def GrantRecord.due (r : GrantRecord) : Option Nat :=
  match r.place with
  | .ring due => some due
  | _ => none

theorem GrantStore.dueOf_eq (g : GrantStore) (k : Key) : g.dueOf k = (g.find k).bind GrantRecord.due := by
  unfold GrantStore.dueOf GrantRecord.due
  cases g.find k <;> rfl

/-- A ring in order of due time stays so where its keys keep their due times. -/
theorem ring_sorted_of_same {g g' : GrantStore} {ring ring' : List Key}
    (h : ring.Pairwise fun a b => (g.dueOf a).getD 0 ≤ (g.dueOf b).getD 0) (hsub : ring'.Sublist ring)
    (hsame : ∀ k ∈ ring', g'.dueOf k = g.dueOf k) :
    ring'.Pairwise fun a b => (g'.dueOf a).getD 0 ≤ (g'.dueOf b).getD 0 :=
  (h.sublist hsub).imp_of_mem fun ha hb hle => by rwa [hsame _ ha, hsame _ hb]

/-- The due time of the ring's tail is the latest of the ring. -/
theorem GrantStore.dueOf_le_tail {g : GrantStore} {ring : List Key}
    (h : ring.Pairwise fun a b => (g.dueOf a).getD 0 ≤ (g.dueOf b).getD 0) {k last : Key} (hk : k ∈ ring)
    (hlast : ring.getLast? = some last) : (g.dueOf k).getD 0 ≤ (g.dueOf last).getD 0 := by
  obtain ⟨front, rfl⟩ := List.getLast?_eq_some_iff.mp hlast
  rcases List.mem_append.mp hk with hk | hk
  · exact (List.pairwise_append.mp h).2.2 k hk last List.mem_cons_self
  · exact Nat.le_of_eq (by rw [List.mem_singleton.mp hk])

/-! ### The operations keep the store well formed -/

section
variable {g : GrantStore} {r r' : GrantRecord} (hw : g.Wf) (hr : r ∈ g.records) (hkey : r'.key = r.key)
include hw hr hkey

/-- A record is replaced in its list, outside the ring. -/
theorem GrantStore.Wf.update (hlist : r'.place.listName = r.place.listName) (hring : r.place.listName ≠ .ring)
    (hmap : r'.map = 0 → r'.place.listName = .revoking) : (g.update r').Wf := by
  have hfind := hw.find_key hr
  have hnot := mt (hw.mem_lists hr).2.1.mp hring
  have hunique := fun x hx h => hw.eq_of_key hr (x := x) hx h
  obtain ⟨hsorted, hcapacity, hprompt, hholds, hrevoking, hdue, hempty⟩ := hw
  have hmem := GrantStore.mem_update hr hkey
  have hlists {inList : Place → Bool} {l : List Key} (hl : ListHolds g l inList)
      (hin : inList r'.place = inList r.place) : ListHolds (g.update r') l inList := by
    refine hl.congr fun k => ⟨?_, ?_⟩
    · rintro ⟨x, hx, rfl, hp⟩
      rcases (hmem x).mp hx with rfl | ⟨hx, -⟩
      · exact ⟨r, hr, hkey.symm, hin ▸ hp⟩
      · exact ⟨x, hx, rfl, hp⟩
    · rintro ⟨x, hx, rfl, hp⟩
      by_cases hxk : x.key = r.key
      · refine ⟨r', (hmem r').mpr (.inl rfl), hkey.trans hxk.symm, ?_⟩
        rwa [hin, ← hunique x hx hxk]
      · exact ⟨x, (hmem x).mpr (.inr ⟨hx, hxk⟩), rfl, hp⟩
  refine ⟨GrantStore.sorted_of_keys (g.update_keys r') hsorted, by simpa [GrantStore.update] using hcapacity,
    hlists hprompt (by simp only [hlist]), hlists hholds (by simp only [hlist]), hlists hrevoking (by simp only [hlist]),
    ?_, fun x hx hzero => ?_⟩
  · refine ring_sorted_of_same hdue (.refl _) fun k hk => ?_
    have hne : k ≠ r'.key := fun h => hnot (hkey ▸ h ▸ hk)
    rw [GrantStore.dueOf_eq, GrantStore.dueOf_eq, GrantStore.find_update g r' r (hkey ▸ hfind), if_neg hne]
  · rcases (hmem x).mp hx with rfl | ⟨hx, -⟩
    · exact hmap hzero
    · exact hempty x hx hzero

/-- A record moves to the tail of its new list; the ring's due times do not pass that of a record that joins it. -/
theorem GrantStore.Wf.move (hmap : r'.map = 0 → r'.place.listName = .revoking)
    (hlate : ∀ due, r'.place = .ring due → ∀ k ∈ g.ring.erase r.key, (g.dueOf k).getD 0 ≤ due) :
    (g.move r.place r').Wf := by
  have hfind := hw.find_key hr
  have heq := hw.move_eq hr r' hkey
  have hdues (k : Key) : (g.move r.place r').dueOf k = if k = r.key then r'.due else g.dueOf k := by
    rw [GrantStore.dueOf_eq, GrantStore.dueOf_eq, GrantStore.find_move g r.place r' r (hkey ▸ hfind), hkey]
    split <;> rfl
  obtain ⟨hsorted, hcapacity, hprompt, hholds, hrevoking, hdue, hempty⟩ := hw
  have hmem (x : GrantRecord) : x ∈ (g.move r.place r').records ↔ x = r' ∨ (x ∈ g.records ∧ x.key ≠ r.key) := by
    rw [heq, ← GrantStore.mem_update hr hkey]
    unfold GrantStore.enlist
    cases r'.place <;> rfl
  have hlists {inList : Place → Bool} {l : List Key} (hl : ListHolds g l inList) :
      ListHolds (g.move r.place r') (if inList r'.place then l.erase r.key ++ [r.key] else l.erase r.key) inList := by
    have hwithout : ListHolds { g with records := g.records.filter fun x => x.key ≠ r.key } (l.erase r.key) inList :=
      hl.without (by simp)
    have h := hwithout.joined (r := r') (g' := g.move r.place r') (by simpa using hmem) (by simp [hkey])
    rwa [hkey] at h
  have hne (k : Key) (hk : k ∈ g.ring.erase r.key) : k ≠ r.key := (hholds.1.mem_erase_iff.mp hk).1
  have hsame : (g.ring.erase r.key).Pairwise fun a b =>
      ((g.move r.place r').dueOf a).getD 0 ≤ ((g.move r.place r').dueOf b).getD 0 :=
    ring_sorted_of_same hdue List.erase_sublist fun k hk => (hdues k).trans (if_neg (hne k hk))
  have hlengths : (g.move r.place r').records.length = g.records.length := by
    simpa using congrArg List.length (g.move_keys r.place r')
  refine ⟨GrantStore.sorted_of_keys (g.move_keys r.place r') hsorted, hlengths ▸ hcapacity, ?_, ?_, ?_, ?_,
    fun x hx hzero => ?_⟩
  · have h := hlists hprompt
    cases hp : r'.place <;> simpa [heq, GrantStore.enlist, hp, Place.listName] using h
  · have h := hlists hholds
    cases hp : r'.place <;> simpa [heq, GrantStore.enlist, hp, Place.listName] using h
  · have h := hlists hrevoking
    cases hp : r'.place <;> simpa [heq, GrantStore.enlist, hp, Place.listName] using h
  · have hring : (g.move r.place r').ring =
        if r'.place.listName = .ring then g.ring.erase r.key ++ [r.key] else g.ring.erase r.key := by
      rw [heq]
      cases hp : r'.place <;> simp [GrantStore.enlist, Place.listName]
    rw [hring]
    split
    next hin =>
      refine List.pairwise_append.mpr ⟨hsame, List.pairwise_singleton _ _, fun k hk k' hk' => ?_⟩
      rw [List.mem_singleton.mp hk', hdues, hdues, if_neg (hne k hk), if_pos rfl]
      cases hp : r'.place with
      | ring due => simpa [GrantRecord.due, hp] using hlate due hp k hk
      | prompt => simp [hp, Place.listName] at hin
      | revoking n => simp [hp, Place.listName] at hin
    next => exact hsame
  · rcases (hmem x).mp hx with rfl | ⟨hx, -⟩
    · exact hmap hzero
    · exact hempty x hx hzero

end

theorem GrantStore.Wf.free {g : GrantStore} {r : GrantRecord} (hw : g.Wf) (hr : r ∈ g.records) : (g.free r).Wf := by
  have heq := hw.free_eq hr
  have hnodup := hw.nodup_records
  have hunique := fun x hx h => hw.eq_of_key hr (x := x) hx h
  obtain ⟨hsorted, hcapacity, hprompt, hholds, hrevoking, hdue, hempty⟩ := hw
  have hsub : (g.free r).records.Sublist g.records := by
    rw [heq]
    exact List.erase_sublist
  have hmem (x : GrantRecord) : x ∈ (g.free r).records ↔ x ∈ g.records ∧ x.key ≠ r.key := by
    rw [heq, hnodup.mem_erase_iff, and_comm]
    exact and_congr_right fun hx => ⟨fun hne h => hne (hunique x hx h), fun hne h => hne (congrArg _ h)⟩
  refine ⟨hsorted.sublist hsub, Nat.le_trans hsub.length_le hcapacity, ?_, ?_, ?_, ?_, fun x hx => hempty x (hsub.subset hx)⟩
  · have h := hprompt.without hmem
    rwa [heq] at h ⊢
  · have h := hholds.without hmem
    rwa [heq] at h ⊢
  · have h := hrevoking.without hmem
    rwa [heq] at h ⊢
  · have hring : (g.free r).ring = g.ring.erase r.key := by rw [heq]
    rw [hring]
    refine ring_sorted_of_same hdue List.erase_sublist fun k hk => ?_
    rw [GrantStore.dueOf_eq, GrantStore.dueOf_eq, GrantStore.find_free, if_neg (hholds.1.mem_erase_iff.mp hk).1]

/-- A record of a new key is created at the prompt tail (R33). -/
theorem GrantStore.Wf.create {g : GrantStore} {r : GrantRecord} (hw : g.Wf) (hnone : g.find r.key = none)
    (hroom : g.records.length < 65536) (hplace : r.place = .prompt) (hmap : r.map ≠ 0) : (g.create r).Wf := by
  have hnew (x : GrantRecord) (hx : x ∈ g.records) : x.key ≠ r.key := by
    simpa using List.find?_eq_none.mp hnone x hx
  obtain ⟨hsorted, hcapacity, hprompt, hholds, hrevoking, hdue, hempty⟩ := hw
  have hmem (x : GrantRecord) : x ∈ (g.create r).records ↔ x = r ∨ x ∈ g.records := mem_insertRecord
  refine ⟨pairwise_insertRecord hsorted hnew, ?_, ?_, ?_, ?_, ?_, fun x hx hzero => ?_⟩
  · change (insertRecord r g.records).length ≤ 65536
    rw [length_insertRecord]
    omega
  · have h := hprompt.joined hmem hnew
    rwa [hplace] at h
  · have h := hholds.joined hmem hnew
    rwa [hplace] at h
  · have h := hrevoking.joined hmem hnew
    rwa [hplace] at h
  · refine ring_sorted_of_same hdue (.refl _) fun k hk => ?_
    obtain ⟨x, hx, hk, -⟩ := (hholds.2 k).mp hk
    rw [GrantStore.dueOf_eq, GrantStore.dueOf_eq, GrantStore.find_create g r hnone, if_neg (hk ▸ hnew x hx)]
  · rcases (hmem x).mp hx with rfl | hx
    · exact absurd hzero hmap
    · exact hempty x hx hzero

end Sys2Proof.Machine
end

section
/-! PROOF. Every step keeps the Grant Store well formed and the record counts those of its records (R18, R31 to R46). -/

namespace Sys2Proof.Machine

/-! ### Conditions that transitions keep (R3, R134, R141) -/

/-- A condition that a transition of an event keeps, and that does not read the Mark List, the second marks, the lines and
the notices. -/
structure KeptByTransitions (P : State → Prop) : Prop where
  acts : ∀ s i e a cause seconds ms x, s.event? i = some e → e.act a cause seconds ms = some x → P s →
    P (s.transition i x.1 x.2 cause)
  marks : ∀ s l, P s → P (s.withMarks l)
  due : ∀ s d, P s → P (s.withDue d)
  cues : ∀ s q, P s → P (s.withCues q)
  post : ∀ s k u v, P s → P (s.post k u v)

section
variable {P : State → Prop} (hP : KeptByTransitions P)
include hP

theorem KeptByTransitions.requestAction {s t : State} {i : Nat} {a : Action} {cause : Cause} {seconds ms : Nat}
    (ht : s.requestAction i a cause seconds ms = some t) (h : P s) : P t := by
  unfold State.requestAction at ht
  split at ht
  next e he =>
    obtain ⟨x, hx, rfl⟩ := Option.map_eq_some_iff.mp ht
    exact hP.acts s i e a cause seconds ms x he hx h
  next => cases ht

theorem KeptByTransitions.fireFirst {s t : State} {now : Nat} (ht : s.fireFirst now = some t) (h : P s) : P t := by
  unfold State.fireFirst at ht
  split at ht
  · cases ht
  next m rest _ =>
    split at ht <;> cases ht
    cases hr : (s.withMarks rest).requestAction m.event m.kind.action .timer now 0 with
    | some u => exact hP.requestAction hr (hP.marks s rest h)
    | none => exact hP.marks s rest h

theorem KeptByTransitions.runPass (n now : Nat) (s : State) (h : P s) : P (State.runPass n now s) := by
  induction n generalizing s with
  | zero => exact h
  | succ n ih =>
    unfold State.runPass
    split
    next t ht => exact ih t (hP.fireFirst ht h)
    next => exact h

theorem KeptByTransitions.finishPass (s : State) (h : P s) : P s.finishPass := by
  unfold State.finishPass
  (repeat' split)
  · exact hP.due _ _ (hP.runPass 129 _ s h)
  · exact hP.due _ _ h
  · exact h

theorem KeptByTransitions.markFiring (s : State) (h : P s) : P s.markFiring := by
  unfold State.markFiring
  split
  · exact h
  next now rest _ =>
    split
    · exact hP.due _ _ h
    · split
      next t ht =>
        have hfired := hP.fireFirst ht h
        split
        · exact hP.due _ _ hfired
        · exact hP.due _ _ hfired
      next => exact hP.due _ _ h

theorem KeptByTransitions.cueRequest (s : State) (line : Nat) (a : Action) (i seconds ms : Nat) (h : P s) :
    P (s.cueRequest line a i seconds ms) := by
  unfold State.cueRequest
  split
  · exact h
  · dsimp only
    have hfinished := hP.finishPass s h
    split
    next t ht => exact hP.requestAction ht hfinished
    next => exact hP.post _ _ _ _ hfinished

theorem KeptByTransitions.acceptEdge (s : State) (n now : Nat) (h : P s) : P (s.acceptEdge n now) := by
  unfold State.acceptEdge
  dsimp only
  (repeat' split)
  · unfold State.beginEpisode
    dsimp only
    split
    · exact hP.post _ _ _ _ (hP.cues _ _ h)
    · exact hP.post _ _ _ _ (hP.post _ _ _ _ (hP.cues _ _ h))
  · exact hP.cueRequest _ _ _ _ _ _ (hP.cues _ _ h)
  · exact hP.cues _ _ h
  · exact h

theorem KeptByTransitions.endCooling (s : State) (n : Nat) (h : P s) : P (s.endCooling n) := by
  unfold State.endCooling
  dsimp only
  (repeat' split)
  · exact hP.cueRequest _ _ _ _ _ _ (hP.cues _ _ h)
  · exact hP.cues _ _ h
  · exact h

theorem KeptByTransitions.eventActionRule (a : Action) (idx code : BitVec 8) (s : State) (h : P s) :
    P (eventActionRule a idx code s).2 := by
  unfold Machine.eventActionRule
  split
  · exact h
  · dsimp only
    have hfinished := hP.finishPass s h
    split
    · exact hfinished
    · split
      · exact hfinished
      next t ht =>
        have ht := hP.requestAction ht hfinished
        split <;> exact ht

end

/-! ### Record counts (R18, R31) -/

@[simp] theorem State.reportEvent_counts (s : State) (i : Nat) :
    (s.reportEvent i).products.map ProductEntry.records = s.products.map ProductEntry.records := by
  have hsame (u : State) : (s.products.map fun x =>
        match x.defn with
        | some d => if d.events.contains i then { x with defn := some (d.recompute u) } else x
        | none => x).map ProductEntry.records = s.products.map ProductEntry.records := by
    rw [List.map_map]
    refine List.map_congr_left fun x _ => ?_
    simp only [Function.comp_apply]
    (repeat' split) <;> rfl
  unfold State.reportEvent
  dsimp only
  split
  · exact hsame s
  · rw [State.requestJobs_frame _ _ _ _ |>.2.2.2.2.2.2.2.2.2.1]
    exact hsame s

@[simp] theorem State.transition_counts (s : State) (i : Nat) (e : EventEntry) (cut : Option Nat) (cause : Cause) :
    (s.transition i e cut cause).products.map ProductEntry.records = s.products.map ProductEntry.records := by
  unfold State.transition
  cases cut <;> simp

@[simp] theorem State.setProduct_counts (s : State) (p : Nat) (d : Option ProductDef) :
    (s.setProduct p d).products.map ProductEntry.records = s.products.map ProductEntry.records := by
  unfold State.setProduct
  rw [State.withProducts_products]
  refine List.ext_getElem? fun i => ?_
  simp only [List.getElem?_map, List.getElem?_modify]
  cases s.products[i]? with
  | none => rfl
  | some x =>
    simp only [Option.map_some]
    split <;> rfl

theorem records_getD (products : List ProductEntry) (p : Nat) :
    (products.getD p ⟨none, 0⟩).records = (products.map ProductEntry.records).getD p 0 := by
  rw [List.getD_eq_getElem?_getD, List.getD_eq_getElem?_getD, List.getElem?_map]
  cases products[p]? <;> rfl

theorem countRecord_getD (products : List ProductEntry) (p q : Nat) (f : Nat → Nat) (hq : q < products.length) :
    ((countRecord products p f).getD q ⟨none, 0⟩).records =
      if p = q then f (products.getD q ⟨none, 0⟩).records else (products.getD q ⟨none, 0⟩).records := by
  unfold countRecord
  rw [List.getD_eq_getElem?_getD, List.getD_eq_getElem?_getD, List.getElem?_modify, List.getElem?_eq_getElem hq]
  simp only [Option.getD_some]
  split <;> rfl

/-! ### The condition under a change of the store -/

/-- The condition reads the Grant Store and the record counts alone. -/
theorem State.StoreOk.congr {s t : State} (h : s.StoreOk) (hs : t.store = s.store)
    (hp : t.products.map ProductEntry.records = s.products.map ProductEntry.records) : t.StoreOk := by
  obtain ⟨hw, hlength, hindex, hcounts⟩ := h
  refine ⟨hs ▸ hw, ?_, hs ▸ hindex, fun p hlt => ?_⟩
  · simpa [hlength] using congrArg List.length hp
  · rw [records_getD, hp, ← records_getD, hs, hcounts p hlt]

/-- The condition under a store of the same keys. -/
theorem State.StoreOk.sameKeys {s : State} (h : s.StoreOk) {g : GrantStore} (hw : g.Wf)
    (hk : g.records.map GrantRecord.key = s.store.records.map GrantRecord.key) : (s.withStore g).StoreOk := by
  have hcount (l : List GrantRecord) (p : Nat) : l.countP (fun r => r.key.product == p) =
      (l.map GrantRecord.key).countP fun k => k.product == p := by
    rw [List.countP_map]
    rfl
  obtain ⟨-, hlength, hindex, hcounts⟩ := h
  refine ⟨hw, hlength, fun r hr => ?_, fun p hlt => ?_⟩
  · have hr : r.key ∈ s.store.records.map GrantRecord.key := hk ▸ List.mem_map_of_mem hr
    obtain ⟨x, hx, heq⟩ := List.mem_map.mp hr
    exact heq ▸ hindex x hx
  · rw [State.withStore_store, hcount, hk, ← hcount]
    exact hcounts p hlt

theorem State.StoreOk.freeRecord {s : State} (h : s.StoreOk) {r : GrantRecord} (hr : r ∈ s.store.records) :
    (s.freeRecord r).StoreOk := by
  obtain ⟨hw, hlength, hindex, hcounts⟩ := h
  have hrecords : (s.store.free r).records = s.store.records.erase r := by rw [hw.free_eq hr]
  refine ⟨hw.free hr, by simpa [State.freeRecord, countRecord] using hlength, fun x hx => ?_, fun p hlt => ?_⟩
  · exact hindex x (List.mem_of_mem_erase (hrecords ▸ hx))
  · have hcount := (List.perm_cons_erase hr).countP_eq fun x => x.key.product == p
    rw [List.countP_cons] at hcount
    change ((countRecord s.products r.key.product (· - 1)).getD p ⟨none, 0⟩).records =
      (s.store.free r).records.countP fun x => x.key.product == p
    rw [countRecord_getD _ _ _ _ (hlength ▸ hlt), hcounts p hlt, hrecords, hcount]
    by_cases heq : r.key.product = p
    · simp [heq]
    · simp [heq]

theorem State.StoreOk.createRecord {s : State} (h : s.StoreOk) {k : Key} {slot : Nat} (hslot : slot < 64)
    (hproduct : k.product < 48) (hnone : s.store.find k = none) (hroom : s.store.records.length < 65536) :
    (s.createRecord k slot).StoreOk := by
  obtain ⟨hw, hlength, hindex, hcounts⟩ := h
  have hmap : BitVec.twoPow 64 slot ≠ 0 := fun hzero => by
    have := congrArg (·.getLsbD slot) hzero
    simp [hslot] at this
  have hcreated : (s.store.create ⟨k, BitVec.twoPow 64 slot, .prompt, none, 0⟩).Wf := hw.create hnone hroom rfl hmap
  have hboth (g : GrantStore) (hg : g.Wf)
      (hrecords : g.records = insertRecord ⟨k, BitVec.twoPow 64 slot, .prompt, none, 0⟩ s.store.records) :
      ((s.withStore g).withProducts (countRecord s.products k.product (· + 1))).StoreOk := by
    refine ⟨hg, by simpa [countRecord] using hlength, fun x hx => ?_, fun p hlt => ?_⟩
    · rw [State.withProducts_store, State.withStore_store, hrecords] at hx
      rcases mem_insertRecord.mp hx with rfl | hx
      · exact hproduct
      · exact hindex x hx
    · change ((countRecord s.products k.product (· + 1)).getD p ⟨none, 0⟩).records =
        g.records.countP fun x => x.key.product == p
      rw [countRecord_getD _ _ _ _ (hlength ▸ hlt), hcounts p hlt, hrecords, (insertRecord_perm _ _).countP_eq,
        List.countP_cons]
      by_cases heq : k.product = p <;> simp [heq]
  unfold State.createRecord
  dsimp only
  split
  · refine State.StoreOk.congr
      (hboth { s.store.create ⟨k, BitVec.twoPow 64 slot, .prompt, none, 0⟩ with highArmed := false } ?_ rfl) (by simp) (by simp)
    exact hcreated
  · exact hboth _ hcreated rfl

/-! ### Bits (R36, R37, R51 to R57) -/

theorem slotOf_lt (addr : BitVec 32) : slotOf addr < 64 := (addr.extractLsb' 0 6).isLt

theorem State.StoreOk.bitSet {s : State} (h : s.StoreOk) {k : Key} {slot : Nat} (hslot : slot < 64)
    (hproduct : k.product < 48) : (s.bitSet k slot).2.StoreOk := by
  have ⟨hw, _⟩ := h
  unfold State.bitSet
  split
  next r hfind =>
    obtain ⟨rfl, hr⟩ := s.store.find_some k r hfind
    split
    · exact h
    · have hset : r.map ||| BitVec.twoPow 64 slot ≠ 0 := fun hzero => by
        have := congrArg (·.getLsbD slot) hzero
        simp [hslot] at this
      dsimp only
      split
      next due hp =>
        refine h.sameKeys ?_ (GrantStore.move_keys ..)
        exact hw.move hr rfl (fun hzero => absurd hzero hset) (by simp)
      next hp =>
        refine h.sameKeys (hw.update hr rfl rfl ?_ fun hzero => absurd hzero hset) (GrantStore.update_keys ..)
        intro hring
        cases hplace : r.place <;> simp_all [Place.listName]
  next hnone =>
    split
    next hroom => exact h.createRecord hslot hproduct hnone hroom
    next => exact h

theorem State.StoreOk.bitClear {s : State} (h : s.StoreOk) (k : Key) (slot : Nat) : (s.bitClear k slot).2.StoreOk := by
  have ⟨hw, _⟩ := h
  unfold State.bitClear
  split
  next r hfind =>
    obtain ⟨rfl, hr⟩ := s.store.find_some k r hfind
    split
    · dsimp only
      split
      next n hp =>
        have hlist : Place.listName (.revoking s.settings.current.revocationCopies) = r.place.listName := by
          rw [hp]
          rfl
        exact h.sameKeys (hw.update hr rfl hlist (by simp [hp, Place.listName]) fun _ => rfl) (GrantStore.update_keys ..)
      next => exact h.sameKeys (hw.move hr rfl (fun _ => rfl) nofun) (GrantStore.move_keys ..)
    · exact h
  next => exact h

theorem State.StoreOk.purchaseTest {s : State} (h : s.StoreOk) (addr : BitVec 32) (product : BitVec 8) :
    (s.purchaseTest addr product).2.StoreOk := by
  unfold State.purchaseTest
  split
  · exact h
  next hfields =>
    have hproduct : product.toNat < 48 := by
      obtain ⟨-, hproduct⟩ := (addressOk_iff addr product).mp (by simpa using hfields)
      exact hproduct
    dsimp only
    (repeat' split)
    · exact h
    · exact h
    · exact h
    · exact h
    · have hbit := h.bitSet (k := ⟨blockOf addr, product.toNat⟩) (slotOf_lt addr) hproduct
      unfold State.purchaseBit
      split
      next heq => exact (congrArg Prod.snd heq) ▸ hbit
      next heq => exact (congrArg Prod.snd heq) ▸ hbit
      next heq => exact (congrArg Prod.snd heq) ▸ hbit

theorem State.StoreOk.cancelTest {s : State} (h : s.StoreOk) (addr : BitVec 32) (product : BitVec 8) :
    (s.cancelTest addr product).2.StoreOk := by
  have hbit := h.bitClear ⟨blockOf addr, product.toNat⟩ (slotOf addr)
  unfold State.cancelTest
  (repeat' split)
  · exact h
  · exact h
  next heq => exact (congrArg Prod.snd heq) ▸ hbit
  next heq => exact (congrArg Prod.snd heq) ▸ hbit

theorem State.StoreOk.itemTest {s : State} (h : s.StoreOk) (cancels : Bool) (x : BatchEntry) :
    (s.itemTest cancels x).2.StoreOk := by
  unfold State.itemTest
  split
  · exact h.cancelTest ..
  · exact h.purchaseTest ..

/-! ### Emission and sweeps (R39 to R41, R44 to R46) -/

/-- The due time of a record that joins the ring is none before the due times of the ring (R73). -/
theorem GrantStore.Wf.le_joiningDue {g : GrantStore} (hw : g.Wf) {r : GrantRecord} (hr : r ∈ g.records)
    (now window guard : Nat) (k : Key) (hk : k ∈ g.ring.erase r.key) :
    (g.dueOf k).getD 0 ≤ joiningDue now window guard (g.unlist r.key r.place).tailDue := by
  have heq := hw.unlist_eq hr
  obtain ⟨-, -, -, -, -, hdue, -⟩ := hw
  rw [heq]
  obtain ⟨last, hlast⟩ := Option.isSome_iff_exists.mp (List.getLast?_isSome.mpr (List.ne_nil_of_mem hk))
  have hle : (g.dueOf k).getD 0 ≤ (g.dueOf last).getD 0 :=
    GrantStore.dueOf_le_tail (hdue.sublist List.erase_sublist) hk hlast
  unfold joiningDue GrantStore.tailDue
  simp only [hlast]
  exact Nat.le_trans hle (Nat.le_max_right _ _)

theorem State.StoreOk.joinRing {s : State} (h : s.StoreOk) {r r' : GrantRecord} (hr : r ∈ s.store.records)
    (hkey : r'.key = r.key) (hplace : r'.place = r.place) (hmap : r'.map ≠ 0) : (s.withStore (s.joinRing r')).StoreOk := by
  have ⟨hw, _⟩ := h
  have hjoin : s.joinRing r' = s.store.move r.place
      { r' with place := .ring (joiningDue s.clock.seconds s.pacing.window s.settings.current.guard
        (s.store.unlist r.key r.place).tailDue) } := by
    unfold State.joinRing GrantStore.move
    rw [hkey, hplace]
  rw [hjoin]
  refine h.sameKeys (hw.move hr hkey (fun hzero => absurd hzero hmap) ?_) (GrantStore.move_keys ..)
  rintro _ ⟨⟩ k hk
  exact hw.le_joiningDue hr _ _ _ k hk

theorem State.StoreOk.placeEmitted {s : State} (h : s.StoreOk) {r r' : GrantRecord} (hr : r ∈ s.store.records)
    (hkey : r'.key = r.key) (hplace : r'.place = r.place) (hmap : r'.map = r.map) : (s.placeEmitted r').StoreOk := by
  have ⟨hw, _⟩ := h
  have hnonempty (hlist : r.place.listName ≠ .revoking) : r'.map ≠ 0 := fun hzero => by
    obtain ⟨-, -, -, -, -, -, hempty⟩ := hw
    exact hlist (hempty r hr (hmap ▸ hzero))
  have hfreed : s.freeRecord r' = s.freeRecord r := by
    unfold State.freeRecord GrantStore.free
    rw [hkey, hplace]
  unfold State.placeEmitted
  split
  next n hp =>
    rw [hplace]
    exact h.sameKeys (hw.move hr hkey (fun _ => rfl) nofun) (GrantStore.move_keys ..)
  next =>
    split
    · rw [hfreed]
      exact h.freeRecord hr
    next hne => exact h.joinRing hr hkey hplace hne
  next hnot _ =>
    refine h.joinRing hr hkey hplace (hnonempty fun hlist => ?_)
    rw [hplace] at *
    cases hp : r.place <;> simp_all [Place.listName]

theorem State.StoreOk.emit {s : State} (h : s.StoreOk) {r : GrantRecord} (hr : r ∈ s.store.records) :
    (s.emit r).2.StoreOk := by
  unfold State.emit
  dsimp only
  split
  · refine State.StoreOk.placeEmitted (r := r) ?_ hr rfl rfl rfl
    exact h.congr rfl rfl
  · exact h.placeEmitted hr rfl rfl rfl

/-- The head of a service list is a record of the store. -/
theorem GrantStore.headOf_mem {g : GrantStore} {l : List Key} {r : GrantRecord} (h : g.headOf l = some r) :
    r ∈ g.records := by
  unfold GrantStore.headOf at h
  split at h
  · exact (g.find_some _ r h).2
  · cases h

/-- A record source is a record of the store. -/
theorem State.source_record {s : State} {r : GrantRecord} (h : s.source = .record r) : r ∈ s.store.records := by
  have hdemand {r : GrantRecord} (h : s.demandHead = some r) : r ∈ s.store.records := by
    unfold State.demandHead at h
    split at h
    · exact GrantStore.headOf_mem h
    · cases h
  unfold State.source at h
  (repeat' split at h) <;> cases h
  next hhead => exact hdemand hhead
  next hhead => exact GrantStore.headOf_mem hhead
  next hhead => exact GrantStore.headOf_mem hhead
  next hhead => exact GrantStore.headOf_mem hhead

theorem State.StoreOk.answerGrant {s : State} (h : s.StoreOk) (us : Nat) : (s.answerGrant us).StoreOk := by
  have hgranted : (s.granted us).StoreOk := h.congr rfl rfl
  rw [State.answerGrant_eq]
  refine State.StoreOk.congr (s := ((s.granted us).takeSource (s.granted us).source).2) ?_ (by simp) (by simp)
  cases hsource : (s.granted us).source with
  | record r => exact hgranted.emit (State.source_record hsource)
  | announce i e => exact hgranted.congr rfl rfl
  | time => exact hgranted.congr rfl rfl
  | filler => exact hgranted

theorem State.StoreOk.jobAction {s : State} (h : s.StoreOk) (kind : JobKind) {r : GrantRecord} (hr : r ∈ s.store.records) :
    (s.jobAction kind r).2.StoreOk := by
  have ⟨hw, _⟩ := h
  cases kind with
  | extend =>
    change (s.extendRecord r).2.StoreOk
    by_cases hx : r.Extends
    · rw [s.extendRecord_of_extends r hx]
      obtain ⟨hring, -⟩ := hx
      refine h.sameKeys (hw.move hr rfl (fun hzero => ?_) nofun) (GrantStore.move_keys ..)
      obtain ⟨-, -, -, -, -, -, hempty⟩ := hw
      exact absurd (hring.symm.trans (hempty r hr hzero)) nofun
    · rw [s.extendRecord_of_not_extends r hx]
      exact h
  | purge => exact h.freeRecord hr
  | void =>
    change (s.voidRecord r).2.StoreOk
    rw [s.voidRecord_eq r]
    dsimp only
    split
    next hlist =>
      exact h.sameKeys (hw.update hr rfl hlist.symm (by simp [hlist]) fun _ => rfl) (GrantStore.update_keys ..)
    next => exact h.sameKeys (hw.move hr rfl (fun _ => rfl) nofun) (GrantStore.move_keys ..)

theorem State.StoreOk.visit {s : State} (h : s.StoreOk) : s.visit.StoreOk := by
  unfold State.visit
  split
  · exact h
  · split
    · exact h.congr (by simp) (by simp)
    next r hafter =>
      have hr : r ∈ s.store.records := by
        unfold GrantStore.after at hafter
        split at hafter
        · exact List.mem_of_find?_eq_some hafter
        · exact List.mem_of_find?_eq_some hafter
      dsimp only
      split
      · exact (h.jobAction _ hr).congr rfl rfl
      · exact h.congr rfl rfl

/-! ### Every step -/

theorem State.IsFresh.storeOk {s : State} (h : s.IsFresh) : s.StoreOk := by
  unfold State.StoreOk GrantStore.Wf ListHolds
  rw [h.store, h.products]
  refine ⟨?_, rfl, nofun, fun p hlt => ?_⟩
  · simp [GrantStore.empty]
  · have hp : p < emptyProducts.length := hlt
    rw [List.getD_eq_getElem?_getD, List.getElem?_eq_getElem hp, Option.getD_some,
      List.eq_of_mem_replicate (List.getElem_mem hp)]
    rfl

theorem State.storeOk_keptByTransitions : KeptByTransitions State.StoreOk where
  acts _ _ _ _ _ _ _ _ _ _ h := h.congr (by simp) (by simp)
  marks _ _ h := h.congr rfl rfl
  due _ _ h := h.congr rfl rfl
  cues _ _ h := h.congr rfl rfl
  post _ _ _ _ h := h.congr (by simp) (by simp)

theorem State.storeOk_keptBySettling : KeptBySettling State.StoreOk where
  link _ _ _ _ h := h.congr rfl rfl
  item _ _ _ h := h.itemTest ..
  write _ _ _ _ h := h.congr rfl rfl
  attn _ h := h.congr (by simp) (by simp)
  reset s form _ _ := by
    cases form with
    | tables => exact s.resetTablesActs_isFresh.storeOk
    | full => exact s.resetFullActs_isFresh.storeOk

theorem State.StoreOk.takePart {s : State} (h : s.StoreOk) (part value : Nat) : (s.takePart part value).2.StoreOk := by
  unfold State.takePart
  dsimp only
  (repeat' split)
  · exact h
  · exact h
  · exact h
  · exact h.congr (by simp) (by simp)
  · exact h.congr rfl rfl
  · unfold State.finalPart
    split
    · unfold State.go
      dsimp only
      refine State.StoreOk.congr (State.storeOk_keptByTransitions.runPass _ _ _ ?_) rfl rfl
      exact h.congr rfl rfl
    · exact h.congr (by simp) (by simp)
    · exact h.congr (by simp) (by simp)
    all_goals split <;> exact h.congr (by simp) (by simp)

theorem State.StoreOk.rule {s : State} (h : s.StoreOk) {c : Instr} {rule : State → Answer}
    (hc : linkRule c = some rule) : (rule s).2.StoreOk := by
  have hfinished := State.storeOk_keptByTransitions.finishPass s h
  cases c <;> cases hc
  case event =>
    unfold eventRule
    dsimp only
    (repeat' split)
    · exact h
    · exact hfinished
    · exact hfinished.congr (by simp [plainReply]) (by simp [plainReply])
  case eventTimes =>
    unfold eventTimesRule
    dsimp only
    (repeat' split)
    · exact h
    · exact hfinished
    · exact hfinished.congr (by simp [plainReply]) (by simp [plainReply])
    · exact hfinished
  case blackout =>
    unfold blackoutRule
    dsimp only
    (repeat' split)
    · exact h
    · exact hfinished
    · exact hfinished
    · exact hfinished.congr (by simp [plainReply]) (by simp [plainReply])
  case productDefine =>
    unfold productDefineRule
    dsimp only
    (repeat' split)
    all_goals exact h.congr (by simp [plainReply]) (by simp [plainReply])
  case productDrop =>
    unfold productDropRule
    (repeat' split)
    all_goals exact h.congr (by simp [plainReply]) (by simp [plainReply])
  case cueBind =>
    unfold cueBindRule
    (repeat' split)
    · exact h
    · exact h
    · exact h
    · exact hfinished.congr (by simp) (by simp)
  case cueClearUnbind =>
    unfold cueUnbindRule
    split
    · exact h
    · exact hfinished.congr (by simp) (by simp)
  case keepalive hd part value => exact h.takePart part.toNat value.toNat
  case eventActionOpenSale => exact State.storeOk_keptByTransitions.eventActionRule _ _ _ s h
  case eventActionKickoff => exact State.storeOk_keptByTransitions.eventActionRule _ _ _ s h
  case eventActionOvertime => exact State.storeOk_keptByTransitions.eventActionRule _ _ _ s h
  case eventActionSuspend => exact State.storeOk_keptByTransitions.eventActionRule _ _ _ s h
  case eventActionResume => exact State.storeOk_keptByTransitions.eventActionRule _ _ _ s h
  case eventActionFinish => exact State.storeOk_keptByTransitions.eventActionRule _ _ _ s h
  case eventActionVoid => exact State.storeOk_keptByTransitions.eventActionRule _ _ _ s h
  case purchase hd addr product => exact h.purchaseTest addr product
  case cancel hd addr product =>
    have htest := h.cancelTest addr product
    unfold cancelRule
    split
    next heq => exact (congrArg Prod.snd heq) ▸ htest
    next heq => exact (congrArg Prod.snd heq) ▸ htest
  case maintenanceExit => exact h.congr rfl rfl
  case status => exact h
  case resetFull => exact h.congr rfl rfl
  all_goals exact h.congr (by simp) (by simp)

theorem State.StoreOk.ownRow {s : State} (h : s.StoreOk) {c : Instr} {f : State → State} (hc : ownRow c = some f) :
    (f s).StoreOk := by
  cases c <;> cases hc
  case resetTablesActs => exact s.resetTablesActs_isFresh.storeOk
  case resetFullActs => exact s.resetFullActs_isFresh.storeOk
  case configuringWindowExpiry =>
    by_cases htimer : s.sup.configTimer.isSome = true
    · exact (s.windowExpired_isFresh htimer).storeOk
    · rwa [State.windowExpired, if_neg htimer]
  case markFiring => exact State.storeOk_keptByTransitions.markFiring s h
  case debounceExpiry n now => exact State.storeOk_keptByTransitions.acceptEdge s n now h
  case coolingTimerExpiry n => exact State.storeOk_keptByTransitions.endCooling s n h
  case sweepVisit => exact h.visit
  case slotGrant us =>
    dsimp only
    split
    · exact h.answerGrant us
    · exact h
  case saveSettingsWriteComplete => exact State.storeOk_keptBySettling.completeWrite s h
  case batchItem => exact State.storeOk_keptBySettling.takeItem s h
  case replySent => exact State.storeOk_keptBySettling.sendDone s h
  case announceIntervalCheck =>
    obtain ⟨d, x, a, heq⟩ := s.announceCheck_eq
    exact heq ▸ h.congr rfl rfl
  case batchIdleTimeout => exact h.congr rfl rfl
  case rateInterval => exact h.congr rfl rfl
  case holdExpires => exact h.congr rfl rfl
  case frameClock => exact h.congr rfl rfl
  all_goals exact h.congr (by simp) (by simp)

theorem State.StoreOk.endActivity {s : State} (h : s.StoreOk) : s.endActivity.StoreOk := h.congr (by simp) (by simp)

theorem State.StoreOk.pinRow {s : State} (h : s.StoreOk) {c : Instr} {f : State → State} (hc : pinRow c = some f) :
    (f s).StoreOk := by
  cases c <;> cases hc
  case powerOn p q => exact (s.release_isFresh p q).storeOk
  case resetLine p q =>
    dsimp only
    split
    · exact h
    · exact (s.release_isFresh p q).storeOk
  case resetLineAsserted =>
    unfold State.holdInReset
    split
    · exact h
    · exact h.endActivity.congr rfl rfl
  case cuePinChange => exact h.congr (by simp) (by simp)
  case powerLoss => exact h.endActivity.congr rfl rfl

theorem State.storeOk_invariant : Invariant State.StoreOk where
  command _ :=
    { settling := State.storeOk_keptBySettling
      weaken := fun _ h => h
      reply := fun _ _ _ _ _ h => h.congr rfl rfl
      rule := fun _ hc _ _ _ h => h.rule hc
      own := fun _ hc _ _ h => h.ownRow hc
      pin := fun _ hc _ h => h.pinRow hc }
  queue _ _ h := h.congr rfl rfl
  choice _ _ h := h.congr rfl rfl
  tick _ _ h := h.congr rfl rfl

/-- Settles O58: each row changes the store through an operation that keeps it well formed. -/
theorem stepsKeepTheStoreWellFormed : Obligations.StepsKeepTheStoreWellFormed :=
  fun _ _ h hstep => State.storeOk_invariant.step hstep h

end Sys2Proof.Machine
end

section
/-! PROOF. What the state after reset meets, and what no command or step changes: the waiting queue, the stored copy, the
policy, STANDDOWN, the seconds of the clock, and events that are over. -/

namespace Sys2Proof.Machine

/-! ### The front command and the state after reset -/

/-- Settles O1: by the definition of a step. -/
theorem stepRunsTheFrontCommand : Obligations.StepRunsTheFrontCommand := by
  intro c rest s hpending
  unfold step
  rw [hpending]

theorem State.reset_isFresh : State.reset.IsFresh := by
  constructor
  · constructor <;> rfl
  all_goals rfl

/-- Settles O53: the state after reset is a fresh one, with the defaults loaded. -/
theorem resetMeetsTheInvariants : Obligations.ResetMeetsTheInvariants := by
  obtain ⟨hlength, hmarks⟩ := State.reset_isFresh.eventsOk
  refine ⟨⟨Settings.defaults_inRange, nofun, nofun, .inl rfl⟩, ?_, ?_, ?_, hmarks, hlength, State.reset_isFresh.storeOk, ?_⟩
  · unfold State.PacingOk
    decide
  · unfold State.SupervisionOk
    decide
  · unfold State.NoticesOk
    decide
  · decide

/-! ### Resets, block by block (R148, R163, R164) -/

theorem State.enterConfiguring_sup_eq (s : State) :
    s.enterConfiguring.sup = { s.sup with
      mode := .configuring, challenge := nextChallenge s.sup.challenge (s.draws + 1), collection := 0, faults := 0,
      period := none, windowOn := false, configTimer := some (s.settings.current.configWindow * 1000), quiet := none } := rfl

theorem State.start_sup (s : State) (port : Port) : (s.start port).sup = (s.loaded port).enterConfiguring.sup := by
  rw [State.start_eq]
  split
  · simp
  · rfl

theorem State.start_clock (s : State) (port : Port) : (s.start port).clock = .start := by
  rw [State.start_eq]
  split
  · simp
    rfl
  · rfl

theorem State.start_settings (s : State) (port : Port) :
    (s.start port).settings.stored = s.settings.stored ∧ (s.start port).settings.writing = none := by
  rw [State.start_eq]
  split
  · simp only [State.post_frame]
    exact ⟨rfl, rfl⟩
  · exact ⟨rfl, rfl⟩

theorem State.start_pending (s : State) (port : Port) : (s.start port).pending = s.pending := by
  rw [State.start_eq]
  split
  · simp
    rfl
  · rfl

/-! ### Every command completes (chapter 95) -/

theorem State.live_total (s : State) (f : State → State) : ∃ t, s.live f = .next t := by
  unfold State.live
  split <;> exact ⟨_, rfl⟩

theorem exec_total (c : Instr) (s : State) : ∃ t, exec c s = .next t := by
  rcases row_family c with ⟨rule, hrule⟩ | ⟨f, hf⟩ | ⟨f, hf⟩ | ⟨hd, kind, rfl⟩
  · rw [exec_of_linkRule hrule]
    exact s.live_total _
  · rw [exec_of_ownRow hf]
    exact s.live_total _
  · exact ⟨_, exec_of_pinRow hf s⟩
  · rw [exec_unknownKind]
    exact s.live_total _

theorem State.resetTables_pending (s : State) : s.resetTables.pending = s.pending := by
  unfold State.resetTables
  simp

theorem State.resetActs_pending (s : State) (form : ResetForm) : (s.resetActs form).pending = s.pending := by
  cases form with
  | tables => exact s.resetTables_pending
  | full => exact s.start_pending _

theorem State.pending_leads (l : List Instr) (c : Instr) :
    Leads (fun s => s.pending = l) (fun s => s.pending = l) c where
  settling :=
    { link := fun _ _ _ _ h => h
      item := fun _ _ _ h => by simpa using h
      write := fun _ _ _ _ h => h
      attn := fun _ h => by simpa using h
      reset := fun s form _ h => (s.resetActs_pending form).trans h }
  weaken _ h := h
  reply _ _ _ _ _ h := h
  rule rule hc s _ _ h := by
    cases c <;> cases hc
    case status => exact h
    case maintenanceExit => exact h
    case resetFull => exact h
    all_goals simpa using h
  own f hf s _ h := by
    cases c <;> cases hf
    case resetTablesActs => exact s.resetTables_pending.trans h
    case resetFullActs => exact (s.start_pending _).trans h
    case configuringWindowExpiry =>
      unfold State.windowExpired
      split
      · simpa using s.resetTables_pending.trans h
      · exact h
    case announceIntervalCheck =>
      obtain ⟨d, x, a, heq⟩ := s.announceCheck_eq
      exact heq ▸ h
    case slotGrant =>
      dsimp only
      split
      · simpa using h
      · exact h
    case batchIdleTimeout => exact h
    case rateInterval => exact h
    case holdExpires => exact h
    case frameClock => exact h
    all_goals simpa using h
  pin f hf s h := by
    have hrelease (p q : Bool) : (s.release p q).pending = s.pending := State.start_pending _ _
    have hend : s.endActivity.pending = s.pending := by simp
    cases c <;> cases hf
    case powerOn p q => exact (hrelease p q).trans h
    case resetLine p q =>
      dsimp only
      split
      · exact h
      · exact (hrelease p q).trans h
    case resetLineAsserted =>
      unfold State.holdInReset
      split
      · exact h
      · exact hend.trans h
    case cuePinChange => simpa using h
    case powerLoss => exact hend.trans h

/-- Settles O2: no row touches the waiting queue. -/
theorem everyCommandCompletes : Obligations.EveryCommandCompletes := by
  intro c s
  obtain ⟨t, ht⟩ := exec_total c s
  exact ⟨t, ht, (State.pending_leads s.pending c).exec ht rfl⟩

/-! ### The stored copy of the settings (R164, R167) -/

/-- The stored copy is x, and no write is under way. -/
def State.StoredIs (x : Option Settings) (s : State) : Prop := s.settings.stored = x ∧ s.settings.writing = none

theorem State.storedIs_keptBySettling (x : Option Settings) : KeptBySettling (State.StoredIs x) where
  link _ _ _ _ h := h
  item _ _ _ h := by simpa [State.StoredIs] using h
  write _ _ _ hw h := by
    obtain ⟨-, hnone⟩ := h
    cases hw.symm.trans hnone
  attn _ h := by simpa [State.StoredIs] using h
  reset s form _ h := by
    obtain ⟨hstored, hnone⟩ := h
    cases form with
    | tables => exact ⟨hstored, hnone⟩
    | full =>
      obtain ⟨hs, hw⟩ := s.start_settings { Port.start with
        transfer := s.port.transfer, sdo := s.port.sdo, lastBit := s.port.lastBit }
      exact ⟨hs.trans hstored, hw⟩

theorem setRule_stored (id : BitVec 8) (value : BitVec 32) (s : State) :
    (setRule id value s).2.settings.stored = s.settings.stored := by
  unfold setRule
  dsimp only
  (repeat' split) <;> simp [plainReply]

theorem State.takePart_stored (s : State) (part value : Nat) :
    (s.takePart part value).2.settings.stored = s.settings.stored := by
  rcases s.takePart_settings part value with heq | heq | heq <;> rw [heq] <;> rfl

theorem State.release_stored (s : State) (p q : Bool) (hw : s.settings.writing = none) :
    (s.release p q).settings.stored = s.settings.stored := by
  have hend : s.endActivity.settings.stored = s.settings.stored := by
    change (if s.settings.writing.isSome then none else s.settings.stored) = s.settings.stored
    rw [hw]
    rfl
  unfold State.release
  rw [(State.start_settings _ _).1]
  exact hend

theorem State.stored_leads (x : Option Settings) (c : Instr) :
    Leads (State.StoredIs x) (fun s => s.settings.stored = x) c where
  settling := State.storedIs_keptBySettling x
  weaken _ h := h.1
  reply _ _ _ _ _ h := h
  rule rule hc s _ hserved h := by
    clear hserved
    obtain ⟨h, -⟩ := h
    cases c <;> cases hc
    case set hd id value => exact (setRule_stored id value s).trans h
    case saveSettings => exact h
    case keepalive hd part value => exact (s.takePart_stored part.toNat value.toNat).trans h
    case maintenanceEnter =>
      unfold maintenanceEnterRule
      (repeat' split) <;> exact h
    case status => exact h
    case maintenanceExit => exact h
    case resetFull => exact h
    all_goals simpa using h
  own f hf s _ h := by
    have ⟨hstored, hnone⟩ := h
    cases c <;> cases hf
    case saveSettingsWriteComplete => exact ((State.storedIs_keptBySettling x).completeWrite s h).1
    case resetTablesActs => exact hstored
    case resetFullActs => exact (s.start_settings _).1.trans hstored
    case configuringWindowExpiry =>
      unfold State.windowExpired
      split
      · simp only [State.post_frame]
        exact hstored
      · exact hstored
    case announceIntervalCheck =>
      obtain ⟨d, y, a, heq⟩ := s.announceCheck_eq
      exact heq ▸ hstored
    case periodTimerExpiry =>
      unfold State.periodElapsed
      split
      · simpa using hstored
      · exact hstored
    case slotGrant =>
      dsimp only
      split
      · simpa using hstored
      · exact hstored
    case batchIdleTimeout => exact hstored
    case rateInterval => exact hstored
    case holdExpires => exact hstored
    case frameClock => exact hstored
    all_goals simpa using hstored
  pin f hf s h := by
    obtain ⟨hstored, hnone⟩ := h
    have hend : s.endActivity.settings.stored = s.settings.stored := by
      change (if s.settings.writing.isSome then none else s.settings.stored) = s.settings.stored
      rw [hnone]
      rfl
    cases c <;> cases hf
    case powerOn p q => exact (s.release_stored p q hnone).trans hstored
    case resetLine p q =>
      dsimp only
      split
      · exact hstored
      · exact (s.release_stored p q hnone).trans hstored
    case resetLineAsserted =>
      unfold State.holdInReset
      split
      · exact hstored
      · exact hend.trans hstored
    case cuePinChange => simpa using hstored
    case powerLoss => exact hend.trans hstored

/-- Settles O9: the stored copy is written where a write completes or is cut short, and none is under way. -/
theorem storedCopyChangesOnlyByAWrite : Obligations.StoredCopyChangesOnlyByAWrite :=
  fun c s _ hnone hexec => (State.stored_leads s.settings.stored c).exec hexec ⟨rfl, hnone⟩

end Sys2Proof.Machine
end

section
/-! PROOF. What no command or step changes, continued: the policy, STANDDOWN, the seconds of the clock, and events that are
over (R12, R13, R125, R158, R161). -/

namespace Sys2Proof.Machine

/-! ### Mode and policy under the shared operations -/

theorem State.enterHoldover_policy (s : State) (byLink : Bool) : (s.enterHoldover byLink).sup.policy = s.sup.policy := by
  obtain ⟨hsup, -⟩ := s.enterHoldover_spec byLink
  rw [hsup]

theorem State.countFault_policy (s : State) (cause : FaultCause) : (s.countFault cause).sup.policy = s.sup.policy := by
  obtain ⟨hbelow, hlimit⟩ := s.countFault_spec cause
  rcases Nat.lt_or_ge (s.sup.faults + 1) s.settings.current.faultLimit with hcount | hcount
  · rw [hbelow hcount]
    simp
  · obtain ⟨hsup, -⟩ := hlimit hcount
    rw [hsup]
    simp

theorem State.restartQuiet_sup (s : State) :
    s.restartQuiet.sup.mode = s.sup.mode ∧ s.restartQuiet.sup.policy = s.sup.policy := by
  unfold State.restartQuiet
  split <;> exact ⟨rfl, rfl⟩

theorem State.frameError_policy (s : State) (armed : Bool) : (s.frameError armed).sup.policy = s.sup.policy := by
  obtain ⟨-, hpolicy⟩ := s.restartQuiet_sup
  unfold State.frameError
  dsimp only
  split
  · exact hpolicy
  · split
    · rw [State.enterHoldover_policy, State.post_frame _ _ _ _ |>.2.2.2.2.1]
      exact hpolicy
    · simpa using hpolicy

/-- Outside SERVING and MAINTENANCE a frame error leaves the mode (R157). -/
theorem State.frameError_mode (s : State) (armed : Bool) (h : s.sup.mode.supervised = false) :
    (s.frameError armed).sup.mode = s.sup.mode := by
  obtain ⟨hmode, -⟩ := s.restartQuiet_sup
  unfold State.frameError
  dsimp only
  split
  · exact hmode
  · split
    next hsupervised =>
      simp only [State.post_frame, State.withLink_sup, hmode, h] at hsupervised
      cases hsupervised
    next => simpa using hmode

/-- A byte is taken, or it makes a frame error; the mode and the policy are then those after it. -/
theorem State.receiveByte_sup (s : State) (b : Byte) :
    ((s.receiveByte b).sup.mode = s.sup.mode ∧ (s.receiveByte b).sup.policy = s.sup.policy) ∨
    ∃ u : State, u.sup = s.sup ∧ (s.receiveByte b) = u.frameError false := by
  unfold State.receiveByte
  dsimp only
  split
  · exact .inl ⟨rfl, rfl⟩
  · exact .inl ⟨rfl, rfl⟩
  · split
    · exact .inr ⟨s.withLink { s.link with lastByte := s.osc }, rfl, rfl⟩
    · split
      · unfold State.completeFrame
        split
        · exact .inl (State.restartQuiet_sup _)
        · exact .inr ⟨s.withLink { s.link with lastByte := s.osc }, rfl, rfl⟩
      · exact .inl ⟨rfl, rfl⟩

theorem State.receiveByte_policy (s : State) (b : Byte) : (s.receiveByte b).sup.policy = s.sup.policy := by
  rcases s.receiveByte_sup b with ⟨-, hpolicy⟩ | ⟨u, hu, heq⟩
  · exact hpolicy
  · rw [heq, State.frameError_policy, hu]

theorem State.receiveByte_mode (s : State) (b : Byte) (h : s.sup.mode.supervised = false) :
    (s.receiveByte b).sup.mode = s.sup.mode := by
  rcases s.receiveByte_sup b with ⟨hmode, -⟩ | ⟨u, hu, heq⟩
  · exact hmode
  · rw [heq, State.frameError_mode u false (hu ▸ h), hu]

theorem State.gapPassed_policy (s : State) : s.gapPassed.sup.policy = s.sup.policy := by
  unfold State.gapPassed
  split
  · exact s.frameError_policy true
  · rfl

theorem State.gapPassed_mode (s : State) (h : s.sup.mode.supervised = false) : s.gapPassed.sup.mode = s.sup.mode := by
  unfold State.gapPassed
  split
  · exact s.frameError_mode true h
  · rfl

theorem State.enterStanddown_sup (s : State) (byCue : Bool) :
    (s.enterStanddown byCue).sup = { s.sup with mode := .standdown, quiet := none } := by
  simp [State.enterStanddown]

theorem State.settlingDone_policy (s : State) : s.settlingDone.sup.policy = s.sup.policy := by
  unfold State.settlingDone
  dsimp only
  (repeat' split)
  · rw [State.enterStanddown_sup]
    rfl
  · rfl
  · rfl

theorem State.settlingDone_mode (s : State) (h : s.sup.mode ≠ .holdover) : s.settlingDone.sup.mode = s.sup.mode := by
  unfold State.settlingDone
  dsimp only
  split
  · split
    next hall => exact absurd hall.2.1 h
    next => rfl
  · rfl

theorem State.resetTables_policy (s : State) : s.resetTables.sup.policy = s.sup.policy := by
  unfold State.resetTables
  rw [State.enterConfiguring_sup_eq]
  rfl

theorem State.start_policy (s : State) (port : Port) : (s.start port).sup.policy = s.sup.policy := by
  rw [State.start_sup]
  rfl

theorem State.takeSetting_sup (s : State) (id v : Nat) :
    (s.takeSetting id v).sup.mode = s.sup.mode ∧ (s.takeSetting id v).sup.policy = s.sup.policy := by
  unfold State.takeSetting
  split
  case h_1 => simp
  all_goals exact ⟨rfl, rfl⟩

theorem setRule_sup (id : BitVec 8) (value : BitVec 32) (s : State) :
    (setRule id value s).2.sup.mode = s.sup.mode ∧ (setRule id value s).2.sup.policy = s.sup.policy := by
  unfold setRule
  dsimp only
  (repeat' split)
  · exact ⟨rfl, rfl⟩
  · exact s.takeSetting_sup _ _
  · exact ⟨rfl, rfl⟩
  · exact s.takeSetting_sup _ _
  · exact s.takeSetting_sup _ _

theorem State.takePart_policy (s : State) (part value : Nat) : (s.takePart part value).2.sup.policy = s.sup.policy := by
  have hfinal : s.finalPart.2.sup.policy = s.sup.policy := by
    have hresume : s.resume.sup.policy = s.sup.policy := by
      unfold State.resume
      dsimp only
      split <;> simp [State.startStarvation, State.completeKeepalive_sup]
    unfold State.finalPart
    split
    · simp [State.go, State.startStarvation, State.completeKeepalive_sup]
    · exact hresume
    · exact hresume
    all_goals
      split
      · exact s.countFault_policy _
      · rfl
  unfold State.takePart
  dsimp only
  (repeat' split)
  · rfl
  · rfl
  · rfl
  · unfold State.wrongPart
    split
    · exact s.countFault_policy _
    · rfl
  · rfl
  · exact hfinal

/-! ### The policy (R158) -/

theorem State.policy_leads (p : Policy) (c : Instr) (hpower : ∀ a b, c ≠ .powerOn a b) (hline : ∀ a b, c ≠ .resetLine a b) :
    Leads (fun s => s.sup.policy = p) (fun s => s.sup.policy = p) c where
  settling :=
    { link := fun _ _ _ _ h => h
      item := fun _ _ _ h => by simpa using h
      write := fun _ _ _ _ h => h
      attn := fun _ h => by simpa using h
      reset := fun s form _ h => by
        cases form with
        | tables => exact s.resetTables_policy.trans h
        | full => exact (s.start_policy _).trans h }
  weaken _ h := h
  reply _ _ _ _ _ h := h
  rule rule hc s _ hserved h := by
    clear hserved
    cases c <;> cases hc
    case set hd id value => exact (setRule_sup id value s).2.trans h
    case keepalive hd part value => exact (s.takePart_policy part.toNat value.toNat).trans h
    case maintenanceEnter =>
      unfold maintenanceEnterRule
      (repeat' split) <;> exact h
    case status => exact h
    case maintenanceExit => exact h
    case resetFull => exact h
    all_goals simpa using h
  own f hf s _ h := by
    cases c <;> cases hf
    case resetTablesActs => exact s.resetTables_policy.trans h
    case resetFullActs => exact (s.start_policy _).trans h
    case configuringWindowExpiry =>
      unfold State.windowExpired
      split
      · simpa using s.resetTables_policy.trans h
      · exact h
    case frameCompletes b => exact (s.receiveByte_policy b).trans h
    case lenOutOfRange b => exact (s.receiveByte_policy b).trans h
    case byteReceived b => exact (s.receiveByte_policy b).trans h
    case byteGapExpiry => exact s.gapPassed_policy.trans h
    case settlingTimerExpiry => exact s.settlingDone_policy.trans h
    case periodTimerExpiry =>
      unfold State.periodElapsed
      split
      · exact (s.countFault_policy _).trans h
      · exact h
    case quietTimerExpiry =>
      unfold State.quietElapsed
      split
      · rw [State.enterStanddown_sup]
        exact h
      · exact h
    case announceIntervalCheck =>
      obtain ⟨d, y, a, heq⟩ := s.announceCheck_eq
      exact heq ▸ h
    case slotGrant =>
      dsimp only
      split
      · simpa using h
      · exact h
    case batchIdleTimeout => exact h
    case rateInterval => exact h
    case holdExpires => exact h
    case frameClock => exact h
    all_goals simpa using h
  pin f hf s h := by
    have hend : s.endActivity.sup.policy = s.sup.policy := rfl
    cases c <;> cases hf
    case powerOn a b => exact absurd rfl (hpower a b)
    case resetLine a b => exact absurd rfl (hline a b)
    case resetLineAsserted =>
      unfold State.holdInReset
      split
      · exact h
      · exact hend.trans h
    case cuePinChange => simpa using h
    case powerLoss => exact hend.trans h

/-! ### STANDDOWN (R161) -/

/-- The part is in STANDDOWN, and neither a RESET nor the configuring window is running out. -/
def State.StoodDown (s : State) : Prop := s.link.resetDue = none ∧ s.sup.configTimer = none ∧ s.sup.mode = .standdown

theorem State.standdown_leads (c : Instr) (hkeepalive : ∀ h p v, c ≠ .keepalive h p v) (htables : c ≠ .resetTablesActs)
    (hfull : c ≠ .resetFullActs) (hpower : ∀ a b, c ≠ .powerOn a b) (hline : ∀ a b, c ≠ .resetLine a b) :
    Leads State.StoodDown (fun s => s.sup.mode = .standdown) c where
  settling :=
    { link := fun _ _ _ hdue h => ⟨hdue.trans h.1, h.2⟩
      item := fun _ _ _ h => by simpa [State.StoodDown] using h
      write := fun _ _ _ _ h => h
      attn := fun _ h => by simpa [State.StoodDown] using h
      reset := fun _ _ hdue h => by cases hdue.symm.trans h.1 }
  weaken _ h := h.2.2
  reply _ _ _ _ _ h := h
  rule rule hc s _ hserved h := by
    obtain ⟨-, -, h⟩ := h
    cases c <;> cases hc
    case set hd id value => exact (setRule_sup id value s).1.trans h
    case keepalive hd part value => exact absurd rfl (hkeepalive hd part value)
    case maintenanceEnter =>
      change modeServes s.sup.mode 0x0F = true at hserved
      rw [h] at hserved
      cases hserved
    case maintenanceExit =>
      have hm : s.sup.mode = .maintenance := eq_of_beq hserved
      cases h.symm.trans hm
    case status => exact h
    case resetFull => exact h
    all_goals simpa using h
  own f hf s _ h := by
    obtain ⟨-, hconfig, h⟩ := h
    have hsupervised : s.sup.mode.supervised = false := by
      rw [h]
      rfl
    cases c <;> cases hf
    case resetTablesActs => exact absurd rfl htables
    case resetFullActs => exact absurd rfl hfull
    case configuringWindowExpiry =>
      unfold State.windowExpired
      rw [if_neg (by simp [hconfig])]
      exact h
    case frameCompletes b => exact (s.receiveByte_mode b hsupervised).trans h
    case lenOutOfRange b => exact (s.receiveByte_mode b hsupervised).trans h
    case byteReceived b => exact (s.receiveByte_mode b hsupervised).trans h
    case byteGapExpiry => exact (s.gapPassed_mode hsupervised).trans h
    case settlingTimerExpiry => exact (s.settlingDone_mode (by simp [h])).trans h
    case periodTimerExpiry =>
      unfold State.periodElapsed
      rw [if_neg (by simp [hsupervised])]
      exact h
    case quietTimerExpiry =>
      unfold State.quietElapsed
      split
      · rw [State.enterStanddown_sup]
      · exact h
    case announceIntervalCheck =>
      obtain ⟨d, y, a, heq⟩ := s.announceCheck_eq
      exact heq ▸ h
    case slotGrant =>
      dsimp only
      split
      · simpa using h
      · exact h
    case batchIdleTimeout => exact h
    case rateInterval => exact h
    case holdExpires => exact h
    case frameClock => exact h
    all_goals simpa using h
  pin f hf s h := by
    obtain ⟨-, -, h⟩ := h
    have hend : s.endActivity.sup.mode = s.sup.mode := rfl
    cases c <;> cases hf
    case powerOn a b => exact absurd rfl (hpower a b)
    case resetLine a b => exact absurd rfl (hline a b)
    case resetLineAsserted =>
      unfold State.holdInReset
      split
      · exact h
      · exact hend.trans h
    case cuePinChange => simpa using h
    case powerLoss => exact hend.trans h

/-- Settles O59: the releases sample the straps and nothing else writes the policy; in STANDDOWN only KEEPALIVE and the
resets write the mode. -/
theorem policyAndStanddownChangeOnlyAsGiven : Obligations.PolicyAndStanddownChangeOnlyAsGiven := by
  refine ⟨fun c s t hexec hne => ?_, fun c s t hexec hdue hconfig hmode hne => ?_⟩
  · refine Classical.byContradiction fun hc => ?_
    simp only [not_or, not_exists] at hc
    obtain ⟨hpower, hline⟩ := hc
    exact hne ((State.policy_leads s.sup.policy c hpower hline).exec hexec rfl)
  · refine Classical.byContradiction fun hc => ?_
    simp only [not_or, not_exists] at hc
    obtain ⟨hkeepalive, htables, hfull, hpower, hline⟩ := hc
    exact hne ((State.standdown_leads c hkeepalive htables hfull hpower hline).exec hexec ⟨hdue, hconfig, hmode⟩)

/-! ### The seconds (R125) -/

theorem State.le_advanceSecond (s : State) : s.clock.seconds ≤ s.advanceSecond.clock.seconds := by
  unfold State.advanceSecond
  split
  · exact Nat.le_succ _
  · exact Nat.le_refl _

theorem State.le_rephase (s : State) (advance : Bool) : s.clock.seconds ≤ (s.rephase advance).clock.seconds := by
  unfold State.rephase
  dsimp only
  split
  · exact State.le_advanceSecond (s.withClock { s.clock with ms := 0 })
  · exact Nat.le_refl _

theorem State.le_rollover (s : State) : s.clock.seconds ≤ s.rollover.clock.seconds := by
  unfold State.rollover
  dsimp only
  split
  · exact State.le_advanceSecond (s.withClock { s.clock with ms := 0 })
  · exact Nat.le_refl _

theorem State.le_lockedPulse (s : State) : s.clock.seconds ≤ s.lockedPulse.clock.seconds := by
  have hrephased (o : Nat) (advance : Bool) := State.le_rephase
    ((s.withClock { s.clock with loss := some 3000 }).withClock { s.clock with loss := some 3000, offPhase := o }) advance
  unfold State.lockedPulse
  dsimp only
  (repeat' split)
  · exact hrephased 0 _
  · exact Nat.le_refl _
  · exact hrephased 0 _

theorem State.le_restoringPulse (s : State) : s.clock.seconds ≤ s.restoringPulse.clock.seconds := by
  have hrephased := s.le_rephase (500 ≤ s.clock.ms)
  unfold State.restoringPulse
  dsimp only
  split <;> split
  · simpa using hrephased
  · simpa using hrephased
  · simp
  · simp

theorem State.le_takePulse (s : State) : s.clock.seconds ≤ s.takePulse.clock.seconds := by
  unfold State.takePulse
  (repeat' split)
  · exact s.le_restoringPulse
  · exact s.le_lockedPulse
  · exact Nat.le_refl _

theorem State.loseReference_seconds (s : State) : s.loseReference.clock.seconds = s.clock.seconds := by
  unfold State.loseReference
  split
  · simp
  · rfl

/-- The seconds have reached n, or a reset has led to CONFIGURING with the clock unset. -/
def State.Reached (n : Nat) (s : State) : Prop :=
  n ≤ s.clock.seconds ∨ (s.sup.mode = .configuring ∧ s.clock.isSet = false ∧ s.sup.quiet = none)

theorem State.Reached.congr {n : Nat} {s t : State} (h : s.Reached n) (hc : t.clock = s.clock) (hs : t.sup = s.sup) :
    t.Reached n := by
  unfold State.Reached
  rwa [hc, hs]

theorem State.reached_keptBySettling (n : Nat) : KeptBySettling (State.Reached n) where
  link _ _ _ _ h := h.congr rfl rfl
  item _ _ _ h := h.congr (by simp) (by simp)
  write _ _ _ _ h := h.congr rfl rfl
  attn _ h := h.congr (by simp) (by simp)
  reset s form _ h := by
    cases form with
    | tables =>
      refine h.imp id fun hreset => ⟨s.resetTablesActs_isFresh.mode, hreset.2.1, rfl⟩
    | full =>
      refine .inr ⟨s.resetFullActs_isFresh.mode, ?_, ?_⟩
      · exact congrArg Clock.isSet (s.start_clock _)
      · exact congrArg Supervision.quiet (s.start_sup _)

/-- In CONFIGURING with the clock unset a keepalive is refused (R151). -/
theorem State.takePart_unset (s : State) (part value : Nat) (hm : s.sup.mode = .configuring) (hc : s.clock.isSet = false) :
    s.takePart part value = (.clockUnset, s) := if_pos ⟨hm, hc⟩

theorem State.seconds_leads (n : Nat) (c : Instr) :
    Leads (State.Reached n) (fun s => n ≤ s.clock.seconds ∨ s.sup.mode = .configuring) c where
  settling := State.reached_keptBySettling n
  weaken _ h := h.imp id And.left
  reply _ _ _ _ _ h := h
  rule rule hc s _ hserved h := by
    have hpost := h.imp id And.left
    cases c <;> cases hc
    case set hd id value =>
      rw [(setRule_sup id value s).1]
      simpa using hpost
    case clockSet hd seconds ms =>
      have hm : s.sup.mode = .configuring := by
        change modeServes s.sup.mode 0x04 = true at hserved
        cases hmode : s.sup.mode <;> rw [hmode] at hserved <;> revert hserved <;> decide
      exact .inr (by simpa using hm)
    case clockAdvance hd k =>
      unfold clockAdvanceRule
      (repeat' split)
      · exact hpost
      · exact hpost
      · exact hpost
      · exact hpost.imp (fun hle => Nat.le_trans hle (Nat.le_add_right _ _)) id
    case clockHold hd k =>
      unfold clockHoldRule
      (repeat' split) <;> exact hpost
    case keepalive hd part value =>
      change n ≤ (s.takePart part.toNat value.toNat).2.clock.seconds ∨ (s.takePart part.toNat value.toNat).2.sup.mode = _
      rcases h with h | ⟨hm, hunset, -⟩
      · exact .inl (by simpa using h)
      · rw [s.takePart_unset _ _ hm hunset]
        exact .inr hm
    case maintenanceEnter =>
      have hm : s.sup.mode ≠ .configuring := fun hm => by
        change modeServes s.sup.mode 0x0F = true at hserved
        rw [hm] at hserved
        cases hserved
      exact .inl (by simpa using hpost.resolve_right hm)
    case maintenanceExit =>
      have hm : s.sup.mode = .maintenance := eq_of_beq hserved
      exact .inl (hpost.resolve_right (by simp [hm]))
    case status => exact hpost
    case resetFull => exact hpost
    all_goals simpa using hpost
  own f hf s _ h := by
    have hpost := h.imp id And.left
    have hclock {t : State} (hle : s.clock.seconds ≤ t.clock.seconds) (hsup : s.sup.mode = .configuring → t.sup.mode = .configuring) :
        n ≤ t.clock.seconds ∨ t.sup.mode = .configuring :=
      hpost.imp (fun h => Nat.le_trans h hle) hsup
    cases c <;> cases hf
    case resetTablesActs => exact .inr s.resetTablesActs_isFresh.mode
    case resetFullActs => exact .inr s.resetFullActs_isFresh.mode
    case configuringWindowExpiry =>
      by_cases htimer : s.sup.configTimer.isSome = true
      · exact .inr (s.windowExpired_isFresh htimer).mode
      · rwa [State.windowExpired, if_neg htimer]
    case frameCompletes b =>
      exact hclock (by simp) fun hm => (s.receiveByte_mode b (by rw [hm]; rfl)).trans hm
    case lenOutOfRange b =>
      exact hclock (by simp) fun hm => (s.receiveByte_mode b (by rw [hm]; rfl)).trans hm
    case byteReceived b =>
      exact hclock (by simp) fun hm => (s.receiveByte_mode b (by rw [hm]; rfl)).trans hm
    case byteGapExpiry => exact hclock (by simp) fun hm => (s.gapPassed_mode (by rw [hm]; rfl)).trans hm
    case settlingTimerExpiry => exact hclock (by simp) fun hm => (s.settlingDone_mode (by simp [hm])).trans hm
    case periodTimerExpiry =>
      refine hclock (by simp) fun hm => ?_
      unfold State.periodElapsed
      rw [if_neg (by simp [hm, Mode.supervised])]
      exact hm
    case quietTimerExpiry =>
      rcases h with h | ⟨hm, -, hquiet⟩
      · exact .inl (by simpa using h)
      · unfold State.quietElapsed
        rw [if_neg (by simp [hquiet])]
        exact .inr hm
    case msRollover => exact hclock s.le_rollover (by simp)
    case pulse => exact hclock s.le_takePulse (by simp)
    case lossTimerExpiry => exact hclock (Nat.le_of_eq s.loseReference_seconds.symm) (by simp)
    case announceIntervalCheck =>
      obtain ⟨d, y, a, heq⟩ := s.announceCheck_eq
      exact heq ▸ hpost
    case slotGrant =>
      dsimp only
      split
      · simpa using hpost
      · exact hpost
    case batchIdleTimeout => exact hpost
    case rateInterval => exact hpost
    case holdExpires => exact hpost
    case frameClock => exact hpost
    all_goals simpa using hpost
  pin f hf s h := by
    have hpost := h.imp id And.left
    have hend : n ≤ s.endActivity.clock.seconds ∨ s.endActivity.sup.mode = .configuring := hpost
    cases c <;> cases hf
    case powerOn a b => exact .inr (s.release_isFresh a b).mode
    case resetLine a b =>
      dsimp only
      split
      · exact hpost
      · exact .inr (s.release_isFresh a b).mode
    case resetLineAsserted =>
      unfold State.holdInReset
      split
      · exact hpost
      · exact hend
    case cuePinChange => simpa using hpost
    case powerLoss => exact hend

/-- Settles O12: a command that sets the clock back is served in CONFIGURING alone, and a reset leads there. -/
theorem secondsNeverGoBackward : Obligations.SecondsNeverGoBackward := by
  intro s t _ ht hstep
  unfold step at hstep
  split at hstep
  next =>
    cases hstep
    rcases State.idle_cases (s := s) rfl with ⟨-, heq⟩ | ⟨-, -, heq⟩ | ⟨-, heq | heq, -⟩ <;> rw [heq] <;>
      exact Nat.le_refl _
  next c rest _ =>
    exact ((State.seconds_leads s.clock.seconds c).exec hstep (.inl (Nat.le_refl _))).resolve_right ht

end Sys2Proof.Machine
end

section
/-! PROOF. An event that is over stays so: no row but a reset takes it out of CLOSED or VOID or empties its entry (R12, R13,
R15, R98). -/

namespace Sys2Proof.Machine

/-- Event i is in a state that has no transition left. -/
def State.IsOverAt (i : Nat) (st : EvState) (s : State) : Prop :=
  (st = .closed ∨ st = .void) ∧ ∃ y, s.event? i = some y ∧ y.state = st

theorem State.IsOverAt.congr {i : Nat} {st : EvState} {s t : State} (h : s.IsOverAt i st) (he : t.events = s.events) :
    t.IsOverAt i st := by
  obtain ⟨hover, y, hy, hst⟩ := h
  exact ⟨hover, y, (congrArg (fun l : List (Option EventEntry) => l.getD i none) he).trans hy, hst⟩

/-- In CLOSED and VOID the table of section 1.2 has no entry (R12, R13). -/
theorem EventEntry.act_of_over {e : EventEntry} (h : e.state = .closed ∨ e.state = .void) (a : Action) (cause : Cause)
    (seconds ms : Nat) : e.act a cause seconds ms = none := by
  unfold EventEntry.act
  rcases h with h | h <;> cases a <;> simp [h]

/-- An entry of another event, or of the same state, takes the place of an entry. -/
theorem State.IsOverAt.set {i j : Nat} {st : EvState} {s t : State} (h : s.IsOverAt i st) {e : EventEntry}
    (hj : j < s.events.length) (he : t.events = s.events.set j (some e)) (hstate : j = i → e.state = st) :
    t.IsOverAt i st := by
  obtain ⟨hover, y, hy, hst⟩ := h
  by_cases hij : i = j
  · exact ⟨hover, e, (event?_of_set hj he i).trans (if_pos hij), hstate hij.symm⟩
  · exact ⟨hover, y, ((event?_of_set hj he i).trans (if_neg hij)).trans hy, hst⟩

/-- An entry of the same state takes the place of an entry. -/
theorem State.IsOverAt.reentry {i j : Nat} {st : EvState} {s t : State} (h : s.IsOverAt i st) {x e : EventEntry}
    (hx : s.event? j = some x) (he : t.events = s.events.set j (some e)) (hstate : e.state = x.state) :
    t.IsOverAt i st := by
  have ⟨_, y, hy, hst⟩ := h
  refine h.set (s.event?_lt j x hx) he fun hj => ?_
  subst hj
  cases hx.symm.trans hy
  exact hstate.trans hst

/-- The entry of an event that is not over takes the place of an entry. -/
theorem State.IsOverAt.of_not_over {i j : Nat} {st : EvState} {s t : State} (h : s.IsOverAt i st) {x e : EventEntry}
    (hx : s.event? j = some x) (he : t.events = s.events.set j (some e)) (hnot : ¬(x.state = .closed ∨ x.state = .void)) :
    t.IsOverAt i st := by
  have ⟨hover, y, hy, hst⟩ := h
  refine h.set (s.event?_lt j x hx) he fun hj => ?_
  subst hj
  cases hx.symm.trans hy
  exact absurd (hst ▸ hover) hnot

theorem State.isOverAt_keptByTransitions (i : Nat) (st : EvState) : KeptByTransitions (State.IsOverAt i st) where
  acts s j e a cause seconds ms x he hx h := by
    refine h.of_not_over he (State.transition_events s j x.1 x.2 cause (s.event?_lt j e he)) fun hover => ?_
    cases (EventEntry.act_of_over hover a cause seconds ms).symm.trans hx
  marks _ _ h := h.congr rfl
  due _ _ h := h.congr rfl
  cues _ _ h := h.congr rfl
  post _ _ _ _ h := h.congr (by simp)

theorem State.IsOverAt.refreshKickoffFlag {i : Nat} {st : EvState} {s : State} (h : s.IsOverAt i st) (j : Nat) :
    (s.refreshKickoffFlag j).IsOverAt i st := by
  unfold State.refreshKickoffFlag
  split
  · exact h
  next e he =>
    dsimp only
    split
    · exact h.reentry (e := { e with cueBound := s.cues.kickoffBound j }) he (by simp) rfl
    · exact h.reentry (e := { e with cueBound := s.cues.kickoffBound j }) he rfl rfl

theorem State.IsOverAt.refreshFlags {i : Nat} {st : EvState} {s : State} (h : s.IsOverAt i st)
    (events : List (Option Nat)) : (s.refreshFlags events).IsOverAt i st := by
  unfold State.refreshFlags
  induction events.filterMap id generalizing s with
  | nil => exact h
  | cons j l ih => exact ih (h.refreshKickoffFlag j)

/-- A definition takes an EMPTY or PLANNED entry (R15). -/
theorem State.IsOverAt.define {i j : Nat} {st : EvState} {s : State} (h : s.IsOverAt i st) {m : Mode}
    (hdefinable : definable m (s.event? j) = true) (e : EventEntry) : (s.transition j e none .command).IsOverAt i st := by
  have ⟨hover, y, hy, hst⟩ := h
  by_cases hlt : j < s.events.length
  · refine h.set hlt (State.transition_events s j e none .command hlt) fun hj => ?_
    rw [hj, hy] at hdefinable
    rcases hover with hclosed | hvoid
    · simp [definable, hst, hclosed] at hdefinable
    · simp [definable, hst, hvoid] at hdefinable
  · refine h.congr ?_
    unfold State.transition
    simp [List.set_eq_of_length_le (Nat.le_of_not_lt hlt)]

theorem State.IsOverAt.eventRule {i : Nat} {st : EvState} {s : State} (h : s.IsOverAt i st) (idx : BitVec 8)
    (so k e : BitVec 32) (late grace allow : BitVec 16) : (eventRule idx so k e late grace allow s).2.IsOverAt i st := by
  have hfinished := (State.isOverAt_keptByTransitions i st).finishPass s h
  unfold Machine.eventRule
  split
  · exact h
  · dsimp only
    split
    · exact hfinished
    next hdefinable =>
      simp only [Bool.not_eq_true, Bool.not_eq_false'] at hdefinable
      exact hfinished.define hdefinable _

theorem State.IsOverAt.eventTimesRule {i : Nat} {st : EvState} {s : State} (h : s.IsOverAt i st) (idx : BitVec 8)
    (so k e : BitVec 32) : (eventTimesRule idx so k e s).2.IsOverAt i st := by
  have hfinished := (State.isOverAt_keptByTransitions i st).finishPass s h
  unfold Machine.eventTimesRule
  split
  · exact h
  · dsimp only
    split
    · exact hfinished
    next x hx =>
      split
      · exact hfinished.reentry (e := { x with saleOpen := so.toNat, kickoff := k.toNat, nominalEnd := e.toNat }) hx
          (by simp [plainReply]) rfl
      · exact hfinished

theorem State.IsOverAt.blackoutRule {i : Nat} {st : EvState} {s : State} (h : s.IsOverAt i st) (idx : BitVec 8)
    (regions : BitVec 64) : (blackoutRule idx regions s).2.IsOverAt i st := by
  have hfinished := (State.isOverAt_keptByTransitions i st).finishPass s h
  unfold Machine.blackoutRule
  split
  · exact h
  · dsimp only
    split
    · exact hfinished
    next x hx =>
      split
      · exact hfinished
      · exact hfinished.reentry (e := { x with blackout := regions }) hx (by simp [plainReply]) rfl

theorem State.IsOverAt.takePart {i : Nat} {st : EvState} {s : State} (h : s.IsOverAt i st) (part value : Nat) :
    (s.takePart part value).2.IsOverAt i st := by
  unfold State.takePart
  dsimp only
  (repeat' split)
  · exact h
  · exact h
  · exact h
  · exact h.congr (by simp)
  · exact h.congr rfl
  · unfold State.finalPart
    split
    · unfold State.go
      dsimp only
      refine State.IsOverAt.congr ((State.isOverAt_keptByTransitions i st).runPass _ _ _ ?_) rfl
      exact h.congr rfl
    · exact h.congr (by simp)
    · exact h.congr (by simp)
    all_goals split <;> exact h.congr (by simp)

theorem State.IsOverAt.answerGrant {i : Nat} {st : EvState} {s : State} (h : s.IsOverAt i st) (us : Nat) :
    (s.answerGrant us).IsOverAt i st := by
  have hgranted : (s.granted us).IsOverAt i st := h.congr rfl
  rw [State.answerGrant_eq]
  refine State.IsOverAt.congr (s := ((s.granted us).takeSource (s.granted us).source).2) ?_ (by simp)
  cases hsource : (s.granted us).source with
  | announce j e =>
    have he := State.announceHead_event (State.source_announce hsource)
    exact hgranted.reentry (e := { e with lastAnnounced := some (s.granted us).clock.seconds }) he rfl rfl
  | record r => exact hgranted.congr (by simp [State.takeSource])
  | time => exact hgranted.congr rfl
  | filler => exact hgranted

theorem State.over_leads (i : Nat) (st : EvState) (c : Instr) (htables : c ≠ .resetTablesActs) (hfull : c ≠ .resetFullActs)
    (hwindow : c ≠ .configuringWindowExpiry) (hpower : ∀ a b, c ≠ .powerOn a b) (hline : ∀ a b, c ≠ .resetLine a b) :
    Leads (fun s => s.link.resetDue = none ∧ s.IsOverAt i st) (State.IsOverAt i st) c where
  settling :=
    { link := fun _ _ _ hdue h => ⟨hdue.trans h.1, h.2.congr rfl⟩
      item := fun _ _ _ h => ⟨by simpa using h.1, h.2.congr (by simp)⟩
      write := fun _ _ _ _ h => ⟨h.1, h.2.congr rfl⟩
      attn := fun _ h => ⟨by simpa using h.1, h.2.congr (by simp)⟩
      reset := fun _ _ hdue h => by cases hdue.symm.trans h.1 }
  weaken _ h := h.2
  reply _ _ _ _ _ h := h.congr rfl
  rule rule hc s _ hserved h := by
    clear hserved
    obtain ⟨-, h⟩ := h
    have hfinished := (State.isOverAt_keptByTransitions i st).finishPass s h
    have haction := fun a idx code => (State.isOverAt_keptByTransitions i st).eventActionRule a idx code s h
    cases c <;> cases hc
    case event => exact h.eventRule ..
    case eventTimes => exact h.eventTimesRule ..
    case blackout => exact h.blackoutRule ..
    case cueBind =>
      unfold cueBindRule
      (repeat' split)
      · exact h
      · exact h
      · exact h
      · refine State.IsOverAt.refreshFlags ?_ _
        exact hfinished.congr rfl
    case cueClearUnbind =>
      unfold cueUnbindRule
      split
      · exact h
      · refine State.IsOverAt.refreshFlags ?_ _
        exact hfinished.congr rfl
    case keepalive hd part value => exact h.takePart part.toNat value.toNat
    case eventActionOpenSale => exact haction ..
    case eventActionKickoff => exact haction ..
    case eventActionOvertime => exact haction ..
    case eventActionSuspend => exact haction ..
    case eventActionResume => exact haction ..
    case eventActionFinish => exact haction ..
    case eventActionVoid => exact haction ..
    case maintenanceExit => exact h.congr rfl
    case status => exact h
    case resetFull => exact h.congr rfl
    all_goals exact h.congr (by simp)
  own f hf s _ h := by
    obtain ⟨-, h⟩ := h
    have hkept := State.isOverAt_keptByTransitions i st
    cases c <;> cases hf
    case resetTablesActs => exact absurd rfl htables
    case resetFullActs => exact absurd rfl hfull
    case configuringWindowExpiry => exact absurd rfl hwindow
    case markFiring => exact hkept.markFiring s h
    case debounceExpiry n now => exact hkept.acceptEdge s n now h
    case coolingTimerExpiry n => exact hkept.endCooling s n h
    case slotGrant us =>
      dsimp only
      split
      · exact h.answerGrant us
      · exact h
    case announceIntervalCheck =>
      obtain ⟨d, y, a, heq⟩ := s.announceCheck_eq
      exact heq ▸ h.congr rfl
    case batchIdleTimeout => exact h.congr rfl
    case rateInterval => exact h.congr rfl
    case holdExpires => exact h.congr rfl
    case frameClock => exact h.congr rfl
    all_goals exact h.congr (by simp)
  pin f hf s h := by
    obtain ⟨-, h⟩ := h
    have hend : s.endActivity.IsOverAt i st := h.congr (by simp)
    cases c <;> cases hf
    case powerOn a b => exact absurd rfl (hpower a b)
    case resetLine a b => exact absurd rfl (hline a b)
    case resetLineAsserted =>
      unfold State.holdInReset
      split
      · exact h
      · exact hend.congr rfl
    case cuePinChange => exact h.congr (by simp)
    case powerLoss => exact hend.congr rfl

/-- Settles O19: CLOSED and VOID have no transition, no definition replaces their entry, and the other rows keep it. -/
theorem closedAndVoidAreFinal : Obligations.ClosedAndVoidAreFinal := by
  intro c s t i x hdue hx hover hexec htables hfull hwindow hpower hline
  obtain ⟨-, hkept⟩ := (State.over_leads i x.state c htables hfull hwindow hpower hline).exec hexec
    ⟨hdue, hover, x, hx, rfl⟩
  exact hkept

end Sys2Proof.Machine
end

section
/-! PROOF. The settings: SET, SAVE SETTINGS and the completion of its write (R154, R165 to R167, R173, R181). -/

namespace Sys2Proof.Machine

/-! ### One setting (R165) -/

/-- A named setting is a numbered one or the level of a notice. -/
theorem settingValue_cases {c : Settings} {id : Nat} (h : (settingValue c id).isSome = true) :
    (1 ≤ id ∧ id ≤ 0x11) ∨ (0x21 ≤ id ∧ id ≤ 0x35) := by
  unfold settingValue at h
  split at h
  case h_18 =>
    split at h
    next hlevel =>
      simp only [Bool.and_eq_true, decide_eq_true_eq] at hlevel
      exact .inr hlevel
    next => cases h
  all_goals omega

theorem settingValue_level (c : Settings) (n : Nat) (h : 0x21 ≤ n) :
    settingValue c n = if n ≤ 0x35 then some (c.levels.getD (n - 0x21) 0) else none := by
  unfold settingValue
  split
  case h_18 => simp [h]
  all_goals omega

/-- A setting other than a level does not read the levels. -/
theorem settingValue_of_lt (c : Settings) (n : Nat) (h : n < 0x21) (l : List Nat) :
    settingValue { c with levels := l } n = settingValue c n := by
  unfold settingValue
  split
  case h_18 => simp [Nat.not_le.mpr h]
  all_goals rfl

/-- Settles O5: by the table of the settings, and for the notice levels by the list that holds them. -/
theorem writingASettingWritesOnlyIt : Obligations.WritingASettingWritesOnlyIt := by
  intro c id other v hlevels hid
  have hrange := settingValue_cases hid
  clear hid
  unfold writeSetting
  split
  case h_18 =>
    have hid : 0x21 ≤ id ∧ id ≤ 0x35 := by
      clear hlevels
      rcases hrange with ⟨hlo, hhi⟩ | hlevel
      · simp only [imp_false] at *
        omega
      · exact hlevel
    rcases Nat.lt_or_ge other 0x21 with hother | hother
    · rw [settingValue_of_lt c other hother, if_neg (by omega)]
    · rw [settingValue_level _ other hother, settingValue_level c other hother]
      by_cases heq : other = id
      · subst heq
        have hlt : other - 0x21 < c.levels.length := by omega
        simp [hid.2, hlt]
      · have hne : id - 0x21 ≠ other - 0x21 := by omega
        simp [heq, List.getElem?_set_ne hne]
  all_goals
    rcases Nat.lt_or_ge other 0x21 with hother | hother
    · unfold settingValue
      split <;> simp_all
    · rw [settingValue_level _ other hother, settingValue_level c other hother, if_neg (show ¬other = _ by omega)]

/-- The settings that do no more than take their value (R165). -/
theorem State.takeSetting_of_plain (s : State) (id v : Nat) (h : id ∉ [0x07, 0x09, 0x0B, 0x10, 0x11]) :
    s.takeSetting id v = s.withCurrent (writeSetting s.settings.current id v) := by
  unfold State.takeSetting
  split
  case h_6 => rfl
  all_goals simp at h

/-- The status of a SET that clamps its value alone. -/
theorem clampStatus (w v : Nat) :
    (if (w != v || false) = true then Status.doneClamped else .done) = if w = v then .done else .doneClamped := by
  by_cases h : w = v <;> simp [h]

/-- Settles O4: SET on a command taken, whose settings are those of the ready part. -/
theorem setTakesOrClampsItsValue : Obligations.SetTakesOrClampsItsValue := by
  intro h id value s hready hmode hlen hplain c u takes
  have hsettings : u.settings = s.settings := by simp [u]
  have htake (v : Nat) (status : Status) :
      (u.takeSetting id.toNat v).answer c status (.settingWritten id v) = takes v status := by
    rw [u.takeSetting_of_plain _ v hplain, State.withCurrent, hsettings]
  have hserved (t : State) (status : Status) (fields : ReplyFields) (hrule : setRule id value u = (some (status, fields), t)) :
      exec c s = .next (t.answer c status fields) :=
    serve_reply c _ s _ _ _ hready (modeServes_set hmode) (by simp [c, lengthOk, hlen]) hrule
  split
  next hadmits => exact hserved u _ _ (by simp only [setRule, hsettings, hadmits, plainReply])
  next cs hadmits =>
    split
    next hmem =>
      refine (hserved _ _ _ ?_).trans (congrArg Host.Outcome.next (htake value.toNat .done))
      simp only [setRule, hsettings, hadmits, List.contains_iff_mem.mpr hmem, if_true]
    next hmem =>
      refine hserved _ _ _ ?_
      simp only [setRule, hsettings, hadmits, List.contains_iff_mem, hmem, if_false, plainReply]
  next lo hi hadmits =>
    intro hle
    have hguard : s.settings.current.guardClamped id.toNat (clampTo lo hi value.toNat) = false := by
      have hid : id.toNat ≠ 0x09 := fun hid => hplain (by simp [hid])
      simp only [Settings.guardClamped, beq_false_of_ne hid, Bool.false_and]
    have hset : exec c s = .next (takes (clampTo lo hi value.toNat)
        (if clampTo lo hi value.toNat = value.toNat then .done else .doneClamped)) := by
      rw [exec_set_range_ready h id value s lo hi hready hmode hlen hadmits, hguard, clampStatus, ← htake]
    rw [hset]
    rcases Nat.lt_or_ge value.toNat lo with hlt | hge
    · have hw : clampTo lo hi value.toNat = lo := by
        unfold clampTo
        omega
      rw [hw, if_pos hlt, if_neg (by omega)]
    · rcases Nat.lt_or_ge hi value.toNat with hgt | hin
      · have hw : clampTo lo hi value.toNat = hi := by
          unfold clampTo
          omega
        rw [hw, if_neg (by omega), if_neg (by omega), if_pos hgt]
      · have hw : clampTo lo hi value.toNat = value.toNat := by
          unfold clampTo
          omega
        rw [hw, if_pos rfl, if_neg (by omega), if_neg (by omega)]

/-- Settles O7: each of the four settings has a range, and acts on one further block. -/
theorem setOfTheOtherActingSettings : Obligations.SetOfTheOtherActingSettings := by
  intro h value s hready hmode hlen u old within status
  have hset (id : BitVec 8) (lo hi : Nat) (hrange : settingAdmits s.settings.current id.toNat = some (.range lo hi))
      (hid : id.toNat ≠ 0x09) :
      exec (.set h id value) s = .next
        (((u id).takeSetting id.toNat (within lo hi)).answer (.set h id value) (status lo hi)
          (.settingWritten id (within lo hi))) := by
    have hguard : s.settings.current.guardClamped id.toNat (clampTo lo hi value.toNat) = false := by
      simp only [Settings.guardClamped, beq_false_of_ne hid, Bool.false_and]
    rw [exec_set_range_ready h id value s lo hi hready hmode hlen hrange, hguard, clampStatus]
    rfl
  have hframe (id : BitVec 8) : (u id).settings = s.settings ∧ (u id).sup = s.sup ∧ (u id).pacing = s.pacing ∧
      (u id).notices = s.notices ∧ (u id).link.errors = s.link.errors := by
    simp [u]
  refine ⟨(hset 0x07 1 4 rfl (by decide)).trans ?_, (hset 0x0B 10 90 rfl (by decide)).trans ?_,
    (hset 0x10 7 255 rfl (by decide)).trans ?_, (hset 0x11 0 6 rfl (by decide)).trans ?_⟩
  · obtain ⟨hsettings, hsup, -⟩ := hframe 0x07
    change Host.Outcome.next (((((u 0x07).withCurrent _).withSup { (u 0x07).sup with faults := 0 })).answer ..) = _
    rw [State.withCurrent, hsettings, hsup]
    rfl
  · obtain ⟨hsettings, -, hpacing, -⟩ := hframe 0x0B
    change Host.Outcome.next (((((u 0x0B).withCurrent _).withPacing { (u 0x0B).pacing with
      capacity := capacityOf (u 0x0B).pacing.a16 (within 10 90) })).answer ..) = _
    rw [State.withCurrent, hsettings, hpacing]
    rfl
  · obtain ⟨hsettings, -, -, -, herrors⟩ := hframe 0x10
    change Host.Outcome.next (((((u 0x10).withCurrent _).withLink { (u 0x10).link with
      errors := min (u 0x10).link.errors (within 7 255) })).answer ..) = _
    rw [State.withCurrent, hsettings, herrors]
    rfl
  · obtain ⟨hsettings, -, -, hnotices, -⟩ := hframe 0x11
    change Host.Outcome.next (((((u 0x11).withCurrent _).withNotices { (u 0x11).notices with
      attn := (u 0x11).notices.attn || (u 0x11).notices.urgent (within 0 6) })).answer ..) = _
    rw [State.withCurrent, hsettings, hnotices]
    rfl

/-! ### SAVE SETTINGS (R167) -/

/-- SAVE SETTINGS, KIND 0x03, is served where SET is (R165, R167). -/
theorem modeServes_saveSettings {m : Mode} (hm : settingModes m) : modeServes m 0x03 = true := by
  obtain rfl | rfl | rfl := hm <;> decide

/-- Settles O8: the rule starts the write and keeps the command in service, and the completion replies. -/
theorem saveSettingsWritesTheSnapshot : Obligations.SaveSettingsWritesTheSnapshot := by
  refine ⟨fun h s hready hmode hlen => ⟨saveTime s.osc, Nat.min_le_left _ _, ?_⟩, ?_⟩
  · have hserve := serve_served (.saveSettings h) saveRule s hready (modeServes_saveSettings hmode) (by simp [lengthOk, hlen])
    refine hserve.trans ?_
    have hsettings : (s.taken (.saveSettings h)).settings = s.settings := by simp
    have hosc : (s.taken (.saveSettings h)).osc = s.osc := by simp
    have hservice : (s.taken (.saveSettings h)).link.service = some ⟨0x03, h.tag, .replying⟩ := by
      simp
      exact ⟨rfl, rfl⟩
    simp only [saveRule, State.withSettings_link, hsettings, hosc, hservice, Option.map_some]
  · intro s snapshot left kind tag hrun hwriting hservice
    refine (s.live_running State.completeWrite hrun).trans ?_
    unfold State.completeWrite
    rw [hwriting]
    dsimp only
    rw [State.withSettings_link, hservice]

end Sys2Proof.Machine
end

section
/-! PROOF. The Broadcast Clock: its commands, the return of the milliseconds, pulses and the loss timer, and the step with an
empty queue (R125 to R132, R174). -/

namespace Sys2Proof.Machine

/-! ### Second marks (R125, R126) -/

theorem State.raiseSecondMark_withClock (s : State) (x : Clock) : (s.withClock x).raiseSecondMark = marked s x := rfl

/-- The seconds advance with a second mark, unless they stand at their end (R125). -/
theorem State.advanceSecond_withClock (s : State) (x : Clock) :
    (s.withClock x).advanceSecond =
      if x.seconds < 4294967295 then marked s { x with seconds := x.seconds + 1 } else s.withClock x := rfl

theorem State.rephase_withClock (s : State) (x : Clock) (advance : Bool) :
    (s.withClock x).rephase advance =
      if advance = true ∧ x.seconds < 4294967295 then marked s { x with ms := 0, seconds := x.seconds + 1 }
      else s.withClock { x with ms := 0 } := by
  have h : (s.withClock x).rephase advance =
      if advance = true then (s.withClock { x with ms := 0 }).advanceSecond else s.withClock { x with ms := 0 } := rfl
  rw [h, State.advanceSecond_withClock]
  by_cases ha : advance = true <;> simp [ha]

theorem State.rollover_eq (s : State) :
    s.rollover =
      if s.clock.hold = 0 ∧ s.clock.seconds < 4294967295 then
        marked s { s.clock with ms := 0, seconds := s.clock.seconds + 1 }
      else s.withClock { s.clock with ms := 0 } := by
  have h : s.rollover =
      if s.clock.hold = 0 then (s.withClock { s.clock with ms := 0 }).advanceSecond
      else s.withClock { s.clock with ms := 0 } := rfl
  rw [h, State.advanceSecond_withClock]
  by_cases hhold : s.clock.hold = 0 <;> simp [hhold]

/-! ### Commands of the clock (R127 to R129) -/

/-- CLOCK ADVANCE and CLOCK HOLD, KINDs 0x05 and 0x06, are served in SERVING and MAINTENANCE (R128, R129, R176). -/
theorem modeServes_clock {m : Mode} (hm : m = .serving ∨ m = .maintenance) :
    modeServes m 0x05 = true ∧ modeServes m 0x06 = true := by
  obtain rfl | rfl := hm <;> decide

theorem exec_clockSet_ready (h : Hdr) (seconds : BitVec 32) (ms : BitVec 16) (s : State) (hready : s.ready)
    (hmode : s.sup.mode = .configuring) (hlen : h.len = 8) :
    let c := Instr.clockSet h seconds ms
    let u := s.taken c
    exec c s = .next
      (if ms.toNat ≤ 999 then
        (u.withClock { s.clock with seconds := seconds.toNat, ms := ms.toNat, isSet := true }).answer c .done .none
      else u.answer c .badField .none) := by
  intro c u
  have hserved (t : State) (status : Status) (hrule : clockSetRule seconds ms u = plainReply status t) :
      exec c s = .next (t.answer c status .none) :=
    serve_plainReply c _ s t status hready (by rw [hmode]; rfl) (by simp [c, lengthOk, hlen]) hrule
  have hclock : u.clock = s.clock := by simp [u]
  split
  next hle => exact hserved _ _ (by rw [clockSetRule, if_neg (by omega), hclock])
  next hgt => exact hserved _ _ (if_pos (by omega))

theorem exec_clockAdvance_ready (h : Hdr) (n : BitVec 8) (s : State) (hready : s.ready)
    (hmode : s.sup.mode = .serving ∨ s.sup.mode = .maintenance) (hlen : h.len = 3) :
    let c := Instr.clockAdvance h n
    let u := s.taken c
    let t := s.clock.seconds + n.toNat
    exec c s = .next
      (if n.toNat = 0 ∨ 60 < n.toNat then u.answer c .badField .none
      else if s.clock.hold ≠ 0 then u.answer c .wrongState .none
      else if 4294967295 < t then u.answer c .badField .none
      else (marked u { s.clock with seconds := t }).answer c .done (.seconds t)) := by
  intro c u t
  have hserved (v : State) (status : Status) (fields : ReplyFields)
      (hrule : clockAdvanceRule n u = (some (status, fields), v)) : exec c s = .next (v.answer c status fields) :=
    serve_reply c _ s v status fields hready (modeServes_clock hmode).1 (by simp [c, lengthOk, hlen]) hrule
  have hclock : u.clock = s.clock := by simp [u]
  have hrange : (n.toNat < 1 || 60 < n.toNat) = decide (n.toNat = 0 ∨ 60 < n.toNat) := by simp
  have hrule : clockAdvanceRule n u =
      if n.toNat = 0 ∨ 60 < n.toNat then plainReply .badField u
      else if s.clock.hold ≠ 0 then plainReply .wrongState u
      else if 4294967295 < t then plainReply .badField u
      else (some (.done, .seconds t), marked u { s.clock with seconds := t }) := by
    unfold clockAdvanceRule
    simp only [hclock, hrange, decide_eq_true_eq, Nat.pos_iff_ne_zero]
    rfl
  split
  next hfield => exact hserved _ _ _ (hrule.trans (if_pos hfield))
  next hfield =>
    rw [if_neg hfield] at hrule
    split
    next hhold => exact hserved _ _ _ (hrule.trans (if_pos hhold))
    next hhold =>
      rw [if_neg hhold] at hrule
      split
      next hend => exact hserved _ _ _ (hrule.trans (if_pos hend))
      next hend => exact hserved _ _ _ (hrule.trans (if_neg hend))

theorem exec_clockHold_ready (h : Hdr) (n : BitVec 8) (s : State) (hready : s.ready)
    (hmode : s.sup.mode = .serving ∨ s.sup.mode = .maintenance) (hlen : h.len = 3) :
    let c := Instr.clockHold h n
    let u := s.taken c
    exec c s = .next
      (if n.toNat = 0 ∨ 60 < n.toNat then u.answer c .badField .none
      else if s.clock.hold ≠ 0 then u.answer c .wrongState .none
      else (u.withClock { s.clock with hold := n.toNat * 1000 }).answer c .done .none) := by
  intro c u
  have hserved (v : State) (status : Status) (hrule : clockHoldRule n u = plainReply status v) :
      exec c s = .next (v.answer c status .none) :=
    serve_plainReply c _ s v status hready (modeServes_clock hmode).2 (by simp [c, lengthOk, hlen]) hrule
  have hclock : u.clock = s.clock := by simp [u]
  have hrange : (n.toNat < 1 || 60 < n.toNat) = decide (n.toNat = 0 ∨ 60 < n.toNat) := by simp
  have hrule : clockHoldRule n u =
      if n.toNat = 0 ∨ 60 < n.toNat then plainReply .badField u
      else if s.clock.hold ≠ 0 then plainReply .wrongState u
      else plainReply .done (u.withClock { s.clock with hold := n.toNat * 1000 }) := by
    unfold clockHoldRule
    simp only [hclock, hrange, decide_eq_true_eq, Nat.pos_iff_ne_zero]
  split
  next hfield => exact hserved _ _ (hrule.trans (if_pos hfield))
  next hfield =>
    rw [if_neg hfield] at hrule
    split
    next hhold => exact hserved _ _ (hrule.trans (if_pos hhold))
    next hhold => exact hserved _ _ (hrule.trans (if_neg hhold))

/-! ### The step with an empty queue (R125, R126, R174) -/

theorem exec_msRollover (s : State) : exec .msRollover s = s.live State.rollover := rfl

theorem exec_holdExpires (s : State) :
    exec .holdExpires s = s.live fun s => s.withClock { s.clock with hold := 0 } := rfl

theorem step_of_pending {s : State} {c : Instr} {rest : List Instr} (h : s.pending = c :: rest) :
    step s = exec c (s.withPending rest) :=
  stepRunsTheFrontCommand c rest s h

theorem step_of_idle {s : State} (h : s.pending = []) : step s = .next s.idle := by
  unfold step
  rw [h]

/-- With nothing due a millisecond passes (R125). -/
theorem step_of_none_due {s : State} (hrun : s.run = .running) (hpending : s.pending = []) (hnone : ∀ c, ¬s.RowDue c) :
    step s = .next s.millisecondLater := by
  have hrows : s.dueRows = [] := List.eq_nil_iff_forall_not_mem.mpr fun c hc => hnone c ((s.mem_dueRows c).mp hc)
  rw [step_of_idle hpending, ← s.tick_eq hpending]
  rcases State.idle_cases (s := s) rfl with ⟨hnot, -⟩ | ⟨-, -, heq⟩ | ⟨-, -, c, hc, -⟩
  · exact absurd hrun hnot
  · rw [heq]
  · rw [hrows] at hc
    cases hc

/-- Where the milliseconds return as a hold ends, the return comes first and advances no second (R125, R129). -/
theorem steps_of_return_in_hold {s : State} (hrun : s.run = .running) (hpending : s.pending = [])
    (hhold : s.clock.hold = 1) (hms : ¬s.clock.ms < 999) :
    ∃ u v : State, step s.tick = .next u ∧ step u = .next v ∧ v.clock = { s.tick.clock with ms := 0, hold := 0 } ∧
      v.due = s.due ∧ v.pending = [] := by
  have hrows : s.tick.pending = [.msRollover, .holdExpires] := by
    simp [hpending, hhold, Nat.not_lt.mp hms, dueIf]
  have hhold' : s.tick.clock.hold = 1 := by simp [hhold]
  have hreturn : (s.tick.withPending [.holdExpires]).rollover =
      (s.tick.withPending [.holdExpires]).withClock { s.tick.clock with ms := 0 } := by
    rw [State.rollover_eq, State.withPending_clock, if_neg fun h => Nat.one_ne_zero (hhold'.symm.trans h.1)]
  refine ⟨(s.tick.withPending [.holdExpires]).withClock { s.tick.clock with ms := 0 },
    (s.tick.withPending []).withClock { s.tick.clock with ms := 0, hold := 0 }, ?_, ?_, rfl, rfl, rfl⟩
  · rw [step_of_pending hrows, exec_msRollover, (s.tick.withPending [.holdExpires]).live_running _ hrun, hreturn]
  · refine (step_of_pending (c := .holdExpires) (rest := []) rfl).trans ?_
    rw [exec_holdExpires]
    exact State.live_running ((s.tick.withPending []).withClock { s.tick.clock with ms := 0 }) _ hrun

/-- A row that is due joins the queue (R126). -/
theorem step_of_due {s : State} {c : Instr} (hrun : s.run = .running) (hpending : s.pending = []) (hdue : s.RowDue c) :
    ∃ (d : Instr) (t : State), s.RowDue d ∧ step s = .next t ∧ t = { s with pending := [d], choices := t.choices } := by
  have hrow := (s.mem_dueRows c).mpr hdue
  rw [step_of_idle hpending]
  rcases State.idle_cases (s := s) rfl with ⟨hnot, -⟩ | ⟨-, hnone, -⟩ | ⟨-, heq, d, hd, hqueue⟩
  · exact absurd hrun hnot
  · rw [hnone] at hrow
    cases hrow
  · refine ⟨d, s.idle, (s.mem_dueRows d).mp hd, rfl, ?_⟩
    rcases heq with heq | heq <;> rw [hqueue] at heq <;> rw [heq] <;> rfl

/-- A frame that a command is read from leaves the holding (R174). -/
theorem State.taken_holding {s : State} {frame : List Byte} {rest : List (List Byte)} {c : Instr}
    (hholding : s.link.holding = frame :: rest) (hdecode : decodeFrame frame = some c) :
    (s.taken c).link.holding = rest := by
  simp [State.taken, State.takeFrame, hholding, hdecode]

/-- Settles O10: the three commands on a ready part, the two rows of the clock, and the idle step by the rows that are
due. -/
theorem clockIsWrittenHeldAndCounted : Obligations.ClockIsWrittenHeldAndCounted := by
  refine ⟨fun h seconds ms s hready hmode hlen => exec_clockSet_ready h seconds ms s hready hmode hlen,
    fun h n s hready hmode hlen => exec_clockAdvance_ready h n s hready hmode hlen,
    fun h n s hready hmode hlen => exec_clockHold_ready h n s hready hmode hlen,
    fun s hrun => (exec_holdExpires s).trans (s.live_running _ hrun),
    fun s hrun => ?_, fun s hrun hpending hnone => ⟨step_of_none_due hrun hpending hnone, fun hhold hms => ?_⟩,
    fun s c hrun hpending hdue => step_of_due hrun hpending hdue,
    fun s frame rest c hholding hdecode => State.taken_holding hholding hdecode⟩
  · rw [exec_msRollover, s.live_running _ hrun, State.rollover_eq]
  · rw [← s.tick_eq hpending]
    exact steps_of_return_in_hold hrun hpending hhold hms

/-! ### Pulses (R130 to R132) -/

theorem exec_pulse (s : State) : exec .pulse s = s.live State.takePulse := rfl

theorem State.lockedPulse_eq (s : State) :
    s.lockedPulse =
      if s.clock.ms ≤ 99 ∨ 900 ≤ s.clock.ms then
        (s.withClock { s.clock with loss := some 3000, offPhase := 0 }).rephase (900 ≤ s.clock.ms)
      else if s.clock.offPhase < 2 then
        s.withClock { s.clock with loss := some 3000, offPhase := s.clock.offPhase + 1 }
      else (s.withClock { s.clock with loss := some 3000, offPhase := 0 }).rephase (500 ≤ s.clock.ms) := by
  unfold State.lockedPulse
  simp only [Bool.or_eq_true, decide_eq_true_eq]
  rfl

theorem takePulse_locked (s : State) (hlocked : s.clock.locked = true) (hms : s.clock.ms ≤ 999) :
    let x := { s.clock with loss := some 3000 }
    let rephased := { x with offPhase := 0, ms := 0 }
    let advanced :=
      if s.clock.seconds < 4294967295 then marked s { rephased with seconds := s.clock.seconds + 1 }
      else s.withClock rephased
    s.takePulse =
      if s.clock.hold ≠ 0 then s.withClock x
      else if s.clock.ms ≤ 99 then s.withClock rephased
      else if 900 ≤ s.clock.ms then advanced
      else if s.clock.offPhase < 2 then s.withClock { x with offPhase := s.clock.offPhase + 1 }
      else if 500 ≤ s.clock.ms then advanced
      else s.withClock rephased := by
  intro x rephased advanced
  have hrephase (b : Bool) : (s.withClock { s.clock with loss := some 3000, offPhase := 0 }).rephase b =
      if b = true then advanced else s.withClock rephased := by
    rw [State.rephase_withClock]
    cases b with
    | true => simp only [true_and, if_true, advanced]; rfl
    | false => rfl
  have hnot : ¬(!s.clock.locked) = true := by simp [hlocked]
  unfold State.takePulse
  rw [if_neg hnot, State.lockedPulse_eq]
  simp only [hrephase, decide_eq_true_eq]
  by_cases hhold : s.clock.hold = 0
  · rw [if_pos hhold, if_neg (not_not_intro hhold)]
    by_cases hlow : s.clock.ms ≤ 99
    · rw [if_pos (.inl hlow), if_neg (by omega), if_pos hlow]
    · by_cases hhigh : 900 ≤ s.clock.ms
      · rw [if_pos (.inr hhigh), if_pos hhigh, if_neg hlow, if_pos hhigh]
      · rw [if_neg (by omega), if_neg hlow, if_neg hhigh]
  · rw [if_neg hhold, if_pos hhold]

theorem takePulse_lost (s : State) (hlost : s.clock.locked = false) :
    let x := { s.clock with locked := true, offPhase := 0, loss := some 3000, lossReported := false }
    let t :=
      if s.clock.hold ≠ 0 then s.withClock x
      else if 500 ≤ s.clock.ms ∧ s.clock.seconds < 4294967295 then
        marked s { x with ms := 0, seconds := s.clock.seconds + 1 }
      else s.withClock { x with ms := 0 }
    s.takePulse = if s.clock.lossReported then t.post .referenceRestored .none (.quantity s.clock.ms) else t := by
  intro x t
  have hrephase : s.rephase (500 ≤ s.clock.ms) =
      if 500 ≤ s.clock.ms ∧ s.clock.seconds < 4294967295 then
        marked s { s.clock with ms := 0, seconds := s.clock.seconds + 1 }
      else s.withClock { s.clock with ms := 0 } := by
    have h : s.rephase (500 ≤ s.clock.ms) = _ := s.rephase_withClock s.clock (500 ≤ s.clock.ms)
    simpa only [decide_eq_true_eq] using h
  have hnot : (!s.clock.locked) = true := by simp [hlost]
  unfold State.takePulse State.restoringPulse
  rw [if_pos hnot]
  dsimp only
  by_cases hhold : s.clock.hold = 0
  · by_cases hadvance : 500 ≤ s.clock.ms ∧ s.clock.seconds < 4294967295
    · have ht : t = marked s { x with ms := 0, seconds := s.clock.seconds + 1 } :=
        (if_neg (not_not_intro hhold)).trans (if_pos hadvance)
      rw [ht, if_pos hhold, hrephase, if_pos hadvance]
      rfl
    · have ht : t = s.withClock { x with ms := 0 } := (if_neg (not_not_intro hhold)).trans (if_neg hadvance)
      rw [ht, if_pos hhold, hrephase, if_neg hadvance]
      rfl
  · have ht : t = s.withClock x := if_pos hhold
    rw [ht, if_neg hhold]

/-- Settles O11: the two kinds of pulse by the phase, and the loss timer by its definition. -/
theorem pulsesAndLossFollowTheReference : Obligations.PulsesAndLossFollowTheReference := by
  refine ⟨fun s hrun hlocked hms => ?_, fun s hrun hlost => ?_, fun s left hrun hloss => ?_⟩
  · rw [exec_pulse, s.live_running _ hrun]
    exact congrArg Host.Outcome.next (takePulse_locked s hlocked hms)
  · rw [exec_pulse, s.live_running _ hrun]
    exact congrArg Host.Outcome.next (takePulse_lost s hlost)
  · refine (s.live_running State.loseReference hrun).trans ?_
    unfold State.loseReference
    rw [hloss]

end Sys2Proof.Machine
end

section
/-! PROOF. EVENT, EVENT TIMES and BLACKOUT (R4, R5, R15, R16, R26). -/

namespace Sys2Proof.Machine

/-! ### What the shared operations change, block by block -/

theorem State.placeMark_eq (s : State) (i : Nat) : s.placeMark i = s.withMarks (s.placeMark i).marks := by
  unfold State.placeMark
  split <;> rfl

theorem State.requestAnnouncement_eq (s : State) (i : Nat) :
    s.requestAnnouncement i = s.withArbiter (s.requestAnnouncement i).arbiter := by
  unfold State.requestAnnouncement
  split <;> rfl

theorem State.requestJob_eq (s : State) (k : JobKind) (products : BitVec 48) :
    s.requestJob k products = s.withWalker (s.requestJob k products).walker := by
  unfold State.requestJob
  split <;> rfl

theorem State.requestJobs_eq (s : State) (void purge extend : BitVec 48) :
    s.requestJobs void purge extend =
      { s with walker := (s.requestJobs void purge extend).walker, choices := (s.requestJobs void purge extend).choices } := by
  have hthree (u : State) (a b c : JobKind) (x y z : BitVec 48) :
      ((u.requestJob a x).requestJob b y).requestJob c z =
        u.withWalker (((u.requestJob a x).requestJob b y).requestJob c z).walker := by
    rw [((u.requestJob a x).requestJob b y).requestJob_eq c z, (u.requestJob a x).requestJob_eq b y, u.requestJob_eq a x]
    rfl
  unfold State.requestJobs
  dsimp only
  (repeat' split) <;> (rw [hthree]; rfl)

/-- A report changes the products, the walker and the order of its requests alone (R22, R23). -/
theorem State.reportEvent_eq (s : State) (i : Nat) :
    s.reportEvent i =
      { s with
        products := (s.reportEvent i).products, walker := (s.reportEvent i).walker,
        choices := (s.reportEvent i).choices } := by
  unfold State.reportEvent
  dsimp only
  split
  · rfl
  · rw [State.requestJobs_eq]
    rfl

theorem State.event?_taken (s : State) (c : Instr) (i : Nat) : (s.taken c).event? i = s.event? i := by
  simp

theorem State.finishPass_taken_idle (s : State) (c : Instr) (h : s.due.inPass = false) : (s.taken c).finishPass = s.taken c :=
  State.finishPass_idle _ (by simpa using h)

/-! ### Fields (R1, R15) -/

theorem timesOk_iff (so k e : BitVec 32) :
    timesOk so k e = true ↔ so.toNat ≤ k.toNat ∧ k.toNat < e.toNat ∧ e.toNat ≤ 4294956495 := by
  simp [timesOk, and_assoc]

theorem windowsOk_iff (late grace allow : BitVec 16) :
    windowsOk late grace allow = true ↔
      late.toNat ≤ 3600 ∧ grace.toNat ≤ 3600 ∧ (allow.toNat = 0 ∨ (60 ≤ allow.toNat ∧ allow.toNat ≤ 3600)) := by
  simp only [windowsOk, Bool.and_eq_true, Bool.or_eq_true, decide_eq_true_eq, beq_iff_eq, and_assoc]

theorem definable_iff (m : Mode) (x : Option EventEntry) :
    definable m x = true ↔ x = none ∨ (m = .configuring ∧ ∃ y, x = some y ∧ y.state = .planned) := by
  cases x with
  | none => simp [definable]
  | some y => simp [definable]

/-! ### EVENT (R15) -/

/-- EVENT, EVENT TIMES and BLACKOUT, KINDs 0x08 to 0x0A, and the modes that serve them (R176). -/
theorem modeServes_events {m : Mode} (hm : m = .configuring ∨ m = .maintenance) :
    modeServes m 0x08 = true ∧ modeServes m 0x09 = true := by
  obtain rfl | rfl := hm <;> decide

theorem modeServes_blackout {m : Mode} (hm : m = .configuring ∨ m = .serving ∨ m = .maintenance) :
    modeServes m 0x0A = true := by
  obtain rfl | rfl | rfl := hm <;> decide

theorem eventRule_of_not_fields (idx : BitVec 8) (so k e : BitVec 32) (late grace allow : BitVec 16) (s : State)
    (h : ¬(idx.toNat < 32 ∧ timesOk so k e = true ∧ windowsOk late grace allow = true)) :
    eventRule idx so k e late grace allow s = plainReply .badField s := by
  refine if_pos ?_
  simp only [Bool.or_eq_true, decide_eq_true_eq, Bool.not_eq_true']
  refine Classical.byContradiction fun hno => ?_
  simp only [not_or, Bool.not_eq_false, Nat.not_le] at hno
  exact h ⟨hno.1.1, hno.1.2, hno.2⟩

theorem eventRule_of_fields (idx : BitVec 8) (so k e : BitVec 32) (late grace allow : BitVec 16) (s : State)
    (h : idx.toNat < 32 ∧ timesOk so k e = true ∧ windowsOk late grace allow = true) :
    eventRule idx so k e late grace allow s =
      if definable s.finishPass.sup.mode (s.finishPass.event? idx.toNat) = true then
        plainReply .done (s.finishPass.transition idx.toNat
          (newEvent so k e late grace allow (s.finishPass.cues.kickoffBound idx.toNat)) none .command)
      else plainReply .wrongState s.finishPass := by
  obtain ⟨hidx, htimes, hwindows⟩ := h
  unfold eventRule
  rw [if_neg (by simp [htimes, hwindows]; omega)]
  dsimp only
  cases definable s.finishPass.sup.mode (s.finishPass.event? idx.toNat) <;> rfl

/-- Settles O14: a definition is a transition to the new entry. -/
theorem eventDefinesAnEntry : Obligations.EventDefinesAnEntry := by
  intro h idx so k e late grace allow s hready hpass hlength hmode hlen fields free c entry
  have hidle := s.finishPass_taken_idle c hpass
  have hfields : fields ↔ idx.toNat < 32 ∧ timesOk so k e = true ∧ windowsOk late grace allow = true := by
    rw [timesOk_iff, windowsOk_iff]
    simp only [fields, and_assoc]
  have hfree : definable (s.taken c).sup.mode ((s.taken c).event? idx.toNat) = true ↔ free := by
    rw [definable_iff, s.event?_taken]
    simp [free]
  have hserved (t : State) (status : Status) (hrule : eventRule idx so k e late grace allow (s.taken c) = plainReply status t) :
      exec c s = .next (t.answer c status .none) :=
    serve_plainReply c _ s t status hready (modeServes_events hmode).1 (by simp [c, lengthOk, hlen]) hrule
  have hentry : newEvent so k e late grace allow ((s.taken c).cues.kickoffBound idx.toNat) = entry := by
    rw [show (s.taken c).cues = s.cues by simp]
    rfl
  refine ⟨fun hf hdef => ?_, fun hf => ?_, fun hf hdef => ?_⟩
  · refine ⟨(s.taken c).transition idx.toNat entry none .command, hserved _ _ ?_, ?_⟩
    · rw [eventRule_of_fields _ _ _ _ _ _ _ _ (hfields.mp hf), hidle, if_pos (hfree.mpr hdef), hentry]
    · exact State.transition_spec _ _ _ _ _ (by simpa [hlength] using (hfields.mp hf).1)
  · exact hserved _ _ (eventRule_of_not_fields _ _ _ _ _ _ _ _ (mt hfields.mpr hf))
  · refine hserved _ _ ?_
    rw [eventRule_of_fields _ _ _ _ _ _ _ _ (hfields.mp hf), hidle, if_neg (mt hfree.mp hdef)]

/-! ### EVENT TIMES (R16) -/

theorem eventTimesRule_of_fields (idx : BitVec 8) (so k e : BitVec 32) (s : State)
    (h : idx.toNat < 32 ∧ timesOk so k e = true) :
    eventTimesRule idx so k e s =
      match s.finishPass.event? idx.toNat with
      | none => plainReply .noEvent s.finishPass
      | some x =>
        if x.state = .planned ∨ x.state = .onSale then
          plainReply .done ((((s.finishPass.withEvents (s.finishPass.events.set idx.toNat (some
            { x with saleOpen := so.toNat, kickoff := k.toNat, nominalEnd := e.toNat }))).placeMark
            idx.toNat).reportEvent idx.toNat).requestAnnouncement idx.toNat)
        else plainReply .wrongState s.finishPass := by
  obtain ⟨hidx, htimes⟩ := h
  unfold eventTimesRule
  exact if_neg (by simp [htimes]; omega)

theorem eventTimesRule_of_not_fields (idx : BitVec 8) (so k e : BitVec 32) (s : State)
    (h : ¬(idx.toNat < 32 ∧ timesOk so k e = true)) : eventTimesRule idx so k e s = plainReply .badField s := by
  refine if_pos ?_
  simp only [Bool.or_eq_true, decide_eq_true_eq, Bool.not_eq_true']
  refine Classical.byContradiction fun hno => ?_
  simp only [not_or, Bool.not_eq_false, Nat.not_le] at hno
  exact h hno

/-- An entry put in place with its mark, reported and announced (R5, R22, R106). -/
theorem State.placed_spec (s : State) (i : Nat) (y : EventEntry) (hi : i < s.events.length) :
    let t := (((s.withEvents (s.events.set i (some y))).placeMark i).reportEvent i).requestAnnouncement i
    t.event? i = some y ∧ t.events = s.events.set i (some y) ∧
    t.marks.find? (fun m => m.event == i) = y.markFor i s.settings.current.kickoffTolerance ∧
    t.marks.filter (fun m => m.event != i) = s.marks.filter (fun m => m.event != i) ∧
    (s.marks.Pairwise (fun a b => a.before b = true) → t.marks.Pairwise (fun a b => a.before b = true)) ∧
    (let r := (s.withEvents t.events).reportEvent i
     t.products = r.products ∧ t.walker = r.walker ∧ t.choices = r.choices) ∧
    t.arbiter = s.arbiter.asked i ∧
    t = { s with
      events := t.events, marks := t.marks, products := t.products, walker := t.walker, choices := t.choices,
      arbiter := t.arbiter } := by
  intro t
  have hevents : t.events = s.events.set i (some y) := by simp [t]
  have hevent : (s.withEvents (s.events.set i (some y))).event? i = some y := (event?_set s i y hi i).trans (if_pos rfl)
  have hmarks : t.marks = replaceMark s.marks i (y.markFor i s.settings.current.kickoffTolerance) := by
    have h := State.placeMark_marks (s.withEvents (s.events.set i (some y))) i y hevent
    simpa [t] using h
  have hown := y.markFor_event i s.settings.current.kickoffTolerance
  obtain ⟨hproducts, hwalker, hchoices⟩ := State.reportEvent_congr
    ((s.withEvents (s.events.set i (some y))).placeMark i) (s.withEvents (s.events.set i (some y))) i
    (by simp) (by simp) (by simp) (by simp) (by simp)
  refine ⟨(event?_of_set hi hevents i).trans (if_pos rfl), hevents, ?_, ?_, ?_, ?_, ?_, ?_⟩
  · rw [hmarks]
    exact find_replaceMark _ _ _ hown
  · rw [hmarks]
    exact filter_replaceMark _ _ _ hown
  · rw [hmarks]
    exact pairwise_replaceMark _ _ _ hown
  · rw [hevents]
    exact ⟨by simpa [t] using hproducts, by simpa [t] using hwalker, by simpa [t] using hchoices⟩
  · have h := State.requestAnnouncement_spec
      (((s.withEvents (s.events.set i (some y))).placeMark i).reportEvent i) i (by
        rw [event?_of_set (e := y) hi (by simp) i, if_pos rfl]
        rfl)
    simpa [t] using h
  · simp only [t]
    rw [State.requestAnnouncement_eq, State.reportEvent_eq, State.placeMark_eq]
    rfl

/-! ### The statement -/

/-- Settles O15: EVENT TIMES places the new entry with its mark, and BLACKOUT writes the set and asks for the
announcement. -/
theorem eventTimesAndBlackoutChangeAnEntry : Obligations.EventTimesAndBlackoutChangeAnEntry := by
  refine ⟨fun h idx so k e s hready hpass hmode hlen => ?_, fun h idx regions s hready hpass hmode hlen => ?_⟩
  · intro fields c u
    have hidle : u.finishPass = u := s.finishPass_taken_idle c hpass
    have hfields : fields ↔ idx.toNat < 32 ∧ timesOk so k e = true := by
      rw [timesOk_iff]
    have hserved (t : State) (status : Status) (hrule : eventTimesRule idx so k e u = plainReply status t) :
        exec c s = .next (t.answer c status .none) :=
      serve_plainReply c _ s t status hready (modeServes_events hmode).2 (by simp [c, lengthOk, hlen]) hrule
    have hevent : u.event? idx.toNat = s.event? idx.toNat := s.event?_taken c idx.toNat
    have hrule (hf : fields) := eventTimesRule_of_fields idx so k e u (hfields.mp hf)
    rw [hidle, hevent] at hrule
    refine ⟨fun hf => hserved _ _ (eventTimesRule_of_not_fields _ _ _ _ _ (mt hfields.mpr hf)), fun hf hnone => ?_,
      fun x hf hx => ?_⟩
    · have hrule := hrule hf
      rw [hnone] at hrule
      exact hserved _ _ hrule
    intro y
    refine ⟨fun hstate => ?_, fun hstate => ?_⟩
    · have hrule := hrule hf
      rw [hx] at hrule
      have hspec := u.placed_spec idx.toNat y (by simpa [u] using s.event?_lt _ x hx)
      have hevents : u.events = s.events := by simp [u]
      have hmarks : u.marks = s.marks := by simp [u]
      have harbiter : u.arbiter = s.arbiter := by simp [u]
      have hsettings : u.settings = s.settings := by simp [u]
      obtain ⟨hplaced, htable, hfind, hothers, hsorted, ⟨hproducts, hwalker, hchoices⟩, hasked, hframe⟩ := hspec
      rw [hsettings] at hfind
      rw [hmarks] at hothers hsorted
      rw [harbiter] at hasked
      obtain ⟨hp, hw, hc⟩ := State.reportEvent_congr (u.withEvents (u.events.set idx.toNat (some y)))
        (s.withEvents (u.events.set idx.toNat (some y))) idx.toNat rfl (by simp [u]) (by simp [u]) (by simp [u]) (by simp [u])
      refine ⟨_, hserved _ _ (hrule.trans (if_pos hstate)), hplaced, hevents ▸ htable, hfind, hothers, hsorted, ?_, hasked,
        hframe⟩
      rw [htable] at hproducts hwalker hchoices ⊢
      exact ⟨hproducts.trans hp, hwalker.trans hw, hchoices.trans hc⟩
    · have hrule := hrule hf
      rw [hx] at hrule
      exact hserved _ _ (hrule.trans (if_neg hstate))
  · intro c u
    have hidle : u.finishPass = u := s.finishPass_taken_idle c hpass
    have hserved (t : State) (status : Status) (hrule : blackoutRule idx regions u = plainReply status t) :
        exec c s = .next (t.answer c status .none) :=
      serve_plainReply c _ s t status hready (modeServes_blackout hmode) (by simp [c, lengthOk, hlen]) hrule
    have hevent : u.event? idx.toNat = s.event? idx.toNat := s.event?_taken c idx.toNat
    have hrule (hidx : idx.toNat < 32) : blackoutRule idx regions u =
        match s.event? idx.toNat with
        | none => plainReply .noEvent u
        | some x =>
          if x.state = .closed ∨ x.state = .void then plainReply .wrongState u
          else plainReply .done ((u.withEvents (u.events.set idx.toNat
            (some { x with blackout := regions }))).requestAnnouncement idx.toNat) := by
      unfold blackoutRule
      rw [if_neg (by omega)]
      dsimp only
      rw [hidle, hevent] <;> rfl
    refine ⟨fun hidx => hserved _ _ (if_pos hidx), fun hidx hnone => ?_, fun x hidx hx => ⟨fun hstate => ?_, fun hstate => ?_⟩⟩
    · have hrule := hrule hidx
      rw [hnone] at hrule
      exact hserved _ _ hrule
    · have hrule := hrule hidx
      rw [hx] at hrule
      refine (hserved _ _ (hrule.trans (if_neg hstate))).trans ?_
      have hset := (event?_set u idx.toNat { x with blackout := regions }
        (by simpa [u] using s.event?_lt _ x hx) idx.toNat).trans (if_pos rfl)
      rw [State.requestAnnouncement_eq, State.requestAnnouncement_spec _ _ (by rw [hset]; rfl),
        State.withEvents_arbiter, show u.arbiter = s.arbiter by simp [u], show u.events = s.events by simp [u]]
    · have hrule := hrule hidx
      rw [hx] at hrule
      exact hserved _ _ (hrule.trans (if_pos hstate))

end Sys2Proof.Machine
end

section
/-! PROOF. PRODUCT, EVENT ACTION, and what a report does (R3 to R23, R113, R114, R120). -/

namespace Sys2Proof.Machine

/-! ### PRODUCT, define form (R19) -/

/-- PRODUCT, KIND 0x0B, is served in CONFIGURING and MAINTENANCE (R19, R176). -/
theorem modeServes_product {m : Mode} (hm : m = .configuring ∨ m = .maintenance) : modeServes m 0x0B = true := by
  obtain rfl | rfl := hm <;> decide

theorem nodup_toNat (events : List (BitVec 8)) : (events.map BitVec.toNat).Nodup ↔ events.Nodup := by
  unfold List.Nodup
  rw [List.pairwise_map]
  exact ⟨fun h => h.imp fun hne heq => hne (congrArg _ heq), fun h => h.imp fun hne heq => hne (BitVec.eq_of_toNat_eq heq)⟩

/-- The fields of a definition: form, index, a kind that its list suits, and the list (R19). -/
def DefineFields (form idx kind : BitVec 8) (events : List (BitVec 8)) : Prop :=
  form = 1 ∧ idx.toNat < 48 ∧ ((kind = 1 ∧ events.length = 1) ∨ (kind = 2 ∧ 2 ≤ events.length)) ∧ events.Nodup ∧
  ∀ i ∈ events, i.toNat < 32

theorem toNat_eq_iff_byte (b : BitVec 8) (n : Nat) (hn : n < 256) : b.toNat = n ↔ b = BitVec.ofNat 8 n := by
  constructor
  · intro h
    exact BitVec.eq_of_toNat_eq (by rw [h, BitVec.toNat_ofNat, Nat.mod_eq_of_lt hn])
  · rintro rfl
    rw [BitVec.toNat_ofNat, Nat.mod_eq_of_lt hn]

theorem productKindOf_cases (kind : BitVec 8) :
    (kind = 1 ∧ productKindOf kind = some .single) ∨ (kind = 2 ∧ productKindOf kind = some .pass) ∨
    (kind ≠ 1 ∧ kind ≠ 2 ∧ productKindOf kind = none) := by
  by_cases h1 : kind = 1
  · subst h1
    exact .inl ⟨rfl, rfl⟩
  · by_cases h2 : kind = 2
    · subst h2
      exact .inr (.inl ⟨rfl, rfl⟩)
    · refine .inr (.inr ⟨h1, h2, ?_⟩)
      unfold productKindOf
      split
      next h => exact absurd ((toNat_eq_iff_byte kind 1 (by decide)).mp h) h1
      next h => exact absurd ((toNat_eq_iff_byte kind 2 (by decide)).mp h) h2
      next => rfl

theorem form_bne_iff (form : BitVec 8) : (form.toNat != 1) = false ↔ form = 1 := by
  rw [bne_eq_false_iff_eq]
  exact toNat_eq_iff_byte form 1 (by decide)

theorem any_ge_eq_false (events : List (BitVec 8)) :
    ((events.map BitVec.toNat).any (32 ≤ ·)) = false ↔ ∀ i ∈ events, i.toNat < 32 := by
  simp [List.any_eq_false]

theorem productDefineRule_of_fields (form idx kind : BitVec 8) (events : List (BitVec 8)) (s : State)
    (hlength : events.length ≤ 16) (h : DefineFields form idx kind events) :
    let es := events.map BitVec.toNat
    productDefineRule form idx kind events s =
      if es.any (fun i => (s.event? i).isNone) then plainReply .noEvent s
      else if es.any s.isOver then plainReply .wrongState s
      else if s.sup.mode = .maintenance ∧ (s.product? idx.toNat).isSome then plainReply .inUse s
      else
        plainReply .done
          ((s.setProduct idx.toNat (some ⟨if kind = 1 then .single else .pass, es, productBound s es, .alive⟩)).announceAll
            (s.eventsOf idx.toNat ++ es)) := by
  intro es
  obtain ⟨hform, hidx, hkind, hnodup, hevents⟩ := h
  have hcheck (k : ProductKind) (hk : listSuits k es.length = true) :
      (form.toNat != 1 || decide (48 ≤ idx.toNat) || !listSuits k es.length || es.any (32 ≤ ·) || !decide es.Nodup) = false := by
    simp only [(form_bne_iff form).mpr hform, hk, (any_ge_eq_false events).mpr hevents, es,
      decide_eq_true ((nodup_toNat events).mpr hnodup), Bool.not_true, Bool.or_false, Bool.false_or, decide_eq_false_iff_not]
    omega
  have hne : (2 : BitVec 8) ≠ 1 := by decide
  rcases hkind with ⟨rfl, hone⟩ | ⟨rfl, htwo⟩
  · have hk : listSuits .single es.length = true := by simp [listSuits, es, hone]
    change (if _ = true then _ else _) = _
    rw [hcheck .single hk]
    rfl
  · have hk : listSuits .pass es.length = true := by simp [listSuits, es, htwo, hlength]
    change (if _ = true then _ else _) = _
    rw [hcheck .pass hk]
    rfl

theorem productDefineRule_of_not_fields (form idx kind : BitVec 8) (events : List (BitVec 8)) (s : State)
    (h : ¬DefineFields form idx kind events) : productDefineRule form idx kind events s = plainReply .badField s := by
  have hcheck (k : ProductKind) (hk : (form.toNat != 1 || decide (48 ≤ idx.toNat) ||
      !listSuits k (events.map BitVec.toNat).length || (events.map BitVec.toNat).any (32 ≤ ·) ||
      !decide (events.map BitVec.toNat).Nodup) = false) :
      form = 1 ∧ idx.toNat < 48 ∧ listSuits k events.length = true ∧ events.Nodup ∧ ∀ i ∈ events, i.toNat < 32 := by
    simp only [Bool.or_eq_false_iff, Bool.not_eq_false', decide_eq_false_iff_not, decide_eq_true_eq, List.length_map] at hk
    obtain ⟨⟨⟨⟨hform, hidx⟩, hsuits⟩, hevents⟩, hnodup⟩ := hk
    exact ⟨(form_bne_iff form).mp hform, by omega, hsuits, (nodup_toNat events).mp hnodup, (any_ge_eq_false events).mp hevents⟩
  unfold productDefineRule
  dsimp only
  rcases productKindOf_cases kind with ⟨hkind, hk⟩ | ⟨hkind, hk⟩ | ⟨-, -, hk⟩
  · rw [hk]
    refine if_pos ?_
    refine Classical.byContradiction fun hno => ?_
    obtain ⟨hform, hidx, hsuits, hnodup, hevents⟩ := hcheck .single (Bool.eq_false_iff.mpr hno)
    exact h ⟨hform, hidx, .inl ⟨hkind, by simpa [listSuits] using hsuits⟩, hnodup, hevents⟩
  · rw [hk]
    refine if_pos ?_
    refine Classical.byContradiction fun hno => ?_
    obtain ⟨hform, hidx, hsuits, hnodup, hevents⟩ := hcheck .pass (Bool.eq_false_iff.mpr hno)
    simp only [listSuits, Bool.and_eq_true, decide_eq_true_eq] at hsuits
    exact h ⟨hform, hidx, .inr ⟨hkind, hsuits.1⟩, hnodup, hevents⟩
  · rw [hk]

theorem State.isOver_iff (s : State) (i : Nat) :
    s.isOver i = true ↔ ∃ e, s.event? i = some e ∧ (e.state = .closed ∨ e.state = .void) := by
  unfold State.isOver
  cases s.event? i <;> simp

theorem State.isVoid_iff (s : State) (i : Nat) : s.isVoid i = true ↔ ∃ e, s.event? i = some e ∧ e.state = .void := by
  unfold State.isVoid
  cases s.event? i <;> simp

theorem productBound_congr {s t : State} (h : t.event? = s.event?) (events : List Nat) :
    productBound t events = productBound s events := by
  unfold productBound State.eventBound
  rw [h]

/-- Settles O16: the checks in the order of the rule, and the definition. -/
theorem productDefineMakesAnAliveProduct : Obligations.ProductDefineMakesAnAliveProduct := by
  intro h form idx kind events s hready hmode hlen hpos hlength fields missing ended c u es made old
  have hserved (t : State) (status : Status) (hrule : productDefineRule form idx kind events u = plainReply status t) :
      exec c s = .next (t.answer c status .none) :=
    serve_plainReply c _ s t status hready (modeServes_product hmode)
      (by simp [c, lengthOk, hlen, defineLength]; omega) hrule
  have hread : u.event? = s.event? ∧ u.product? = s.product? := by simp [u]
  obtain ⟨hevent, hproduct⟩ := hread
  have hover : u.isOver = s.isOver := by
    funext i
    unfold State.isOver
    rw [hevent]
  have hmissing : (es.any fun i => (u.event? i).isNone) = true ↔ missing := by
    simp [hevent, es, missing]
  have hended : es.any u.isOver = true ↔ ended := by
    simp [hover, es, ended, State.isOver_iff]
  have hinUse : (u.sup.mode = .maintenance ∧ (u.product? idx.toNat).isSome = true) ↔
      (s.sup.mode = .maintenance ∧ old.defn.isSome = true) := by
    rw [hproduct, show u.sup = s.sup by simp [u]]
    rfl
  have hrule (hf : fields) := productDefineRule_of_fields form idx kind events u hlength hf
  refine ⟨fun hf => hserved _ _ (productDefineRule_of_not_fields _ _ _ _ _ hf), fun hf hm => ?_, fun hf hm he => ?_,
    fun hf hm he hmain hold => ?_, fun hf hm he hfree => ?_⟩
  · exact hserved _ _ ((hrule hf).trans (if_pos (hmissing.mpr hm)))
  · exact hserved _ _ (((hrule hf).trans (if_neg (mt hmissing.mp hm))).trans (if_pos (hended.mpr he)))
  · exact hserved _ _ ((((hrule hf).trans (if_neg (mt hmissing.mp hm))).trans (if_neg (mt hended.mp he))).trans
      (if_pos (hinUse.mpr ⟨hmain, hold⟩)))
  · have hdone := hserved _ _ ((((hrule hf).trans (if_neg (mt hmissing.mp hm))).trans (if_neg (mt hended.mp he))).trans
      (if_neg (mt hinUse.mp hfree)))
    have heventsOf : u.eventsOf idx.toNat = s.eventsOf idx.toNat := by
      unfold State.eventsOf
      rw [hproduct]
    rw [hdone, heventsOf, productBound_congr hevent, State.setProduct, show u.products = s.products by simp [u]]

/-! ### PRODUCT, drop form (R20, R120) -/

theorem dropFromPending_eq (p : Nat) (x : Option (BitVec 48)) :
    dropFromPending p x = (x.map fun v => v &&& ~~~BitVec.twoPow 48 p).filter fun v => v != 0 := by
  unfold dropFromPending
  cases x with
  | none => rfl
  | some v =>
    by_cases hv : v &&& ~~~BitVec.twoPow 48 p = 0 <;> simp [hv, Option.filter]

theorem Walker.dropProduct_pendingOf (w : Walker) (p : Nat) (k : JobKind) :
    (w.dropProduct p).pendingOf k = ((w.pendingOf k).map fun v => v &&& ~~~BitVec.twoPow 48 p).filter fun v => v != 0 := by
  cases k <;> exact dropFromPending_eq p _

/-- Settles O17: the checks in the order of the rule, and the drop. -/
theorem productDropRemovesAnEmptyProduct : Obligations.ProductDropRemovesAnEmptyProduct := by
  intro h idx s hready hmode hlen c u without
  have hserved (t : State) (status : Status) (hrule : productDropRule idx u = plainReply status t) :
      exec c s = .next (t.answer c status .none) :=
    serve_plainReply c _ s t status hready (modeServes_product hmode) (by simp [c, lengthOk, hlen]) hrule
  have hproduct : u.product? = s.product? := by simp [u]
  have hproducts : u.products = s.products := by simp [u]
  have hwalker : u.walker = s.walker := by simp [u]
  have hrule (hidx : idx.toNat < 48) (d : ProductDef) (hd : s.product? idx.toNat = some d) : productDropRule idx u =
      if 0 < (s.products.getD idx.toNat ⟨none, 0⟩).records then plainReply .inUse u
      else plainReply .done (((u.setProduct idx.toNat none).withWalker (s.walker.dropProduct idx.toNat)).announceAll
        d.events) := by
    unfold productDropRule
    rw [if_neg (by omega), hproduct, hd, hproducts, hwalker]
  refine ⟨fun hidx => hserved _ _ (if_pos hidx), fun hidx hnone => hserved _ _ ?_, fun hidx hsome hrecords => ?_,
    fun d hidx hd hrecords => ?_⟩
  · unfold productDropRule
    rw [if_neg (by omega), hproduct, hnone]
  · obtain ⟨d, hd⟩ := Option.isSome_iff_exists.mp hsome
    exact hserved _ _ ((hrule hidx d hd).trans (if_pos hrecords))
  · refine ⟨_, hserved _ _ ((hrule hidx d hd).trans (if_neg (by omega))), ?_, rfl, fun k => ?_, rfl⟩
    · simp only [State.withWalker_products, State.setProduct, State.withProducts_products, hproducts]
    · exact Walker.dropProduct_pendingOf _ _ _

end Sys2Proof.Machine
end

section
/-! PROOF. Supervision: KEEPALIVE, MAINTENANCE, and the period and quiet timers (R149 to R162). -/

namespace Sys2Proof.Machine

/-! ### KEEPALIVE and its checks (R151) -/

theorem modeServes_keepalive (m : Mode) : modeServes m 0x0E = true := modeServes_of_always m 0x0E (by decide)

/-- KEEPALIVE on a ready part: the reply carries the challenge and the parts in force as they stand after it. -/
theorem exec_keepalive_ready (h : Hdr) (part value : BitVec 8) (s t : State) (status : Status) (hready : s.ready)
    (hlen : h.len = 4)
    (htake : (s.taken (.keepalive h part value)).takePart part.toNat value.toNat = (status, t)) :
    exec (.keepalive h part value) s =
      .next (t.answer (.keepalive h part value) status (.keepalive t.sup.challenge t.settings.inForce.partsCount)) :=
  serve_reply _ _ s t status _ hready (modeServes_keepalive _) (by simp [lengthOk, hlen]) (by simp [keepaliveRule, htake])

/-- The checks of R151 in the order of the rule; `takePart_of_*` give each of its ends. -/
theorem State.takePart_eq (s : State) (part value : Nat) :
    s.takePart part value =
      if s.sup.mode = .configuring ∧ s.clock.isSet = false then (.clockUnset, s)
      else if part < 1 ∨ s.settings.inForce.partsCount < part ∨ 2 ^ bitsPerPart s.settings.inForce.partsCount ≤ value then
        (.badField, s)
      else if part ≠ s.sup.collection + 1 then (.wrongState, s)
      else if value ≠ expectedPart s.sup.challenge s.settings.inForce.partsCount part then (.faultValue, s.wrongPart)
      else if part < s.settings.inForce.partsCount then (.partTaken, s.withSup { s.sup with collection := part })
      else s.finalPart := rfl

theorem HoldoverEntered.challenge {s t : State} {byLink : Bool} (h : HoldoverEntered s t byLink) :
    t.sup.challenge = s.sup.challenge := by
  obtain ⟨hsup, -⟩ := h
  rw [hsup]

/-- A fault keeps the challenge (R153). -/
theorem State.countFault_challenge (s : State) (cause : FaultCause) :
    (s.countFault cause).sup.challenge = s.sup.challenge := by
  obtain ⟨hbelow, hlimit⟩ := s.countFault_spec cause
  rcases Nat.lt_or_ge (s.sup.faults + 1) s.settings.current.faultLimit with hcount | hcount
  · rw [hbelow hcount]
    rfl
  · exact (hlimit hcount).challenge.trans (by simp)

/-- Settles O24: one case per check of R151. -/
theorem keepalivePartsAreChecked : Obligations.KeepalivePartsAreChecked := by
  intro h part value s hready hlen c u parts fields unset badField expected
  have hserved (t : State) (status : Status) (hsup : t.sup.challenge = s.sup.challenge)
      (hset : t.settings.inForce.partsCount = parts) (htake : u.takePart part.toNat value.toNat = (status, t)) :
      exec c s = .next (t.answer c status fields) := by
    rw [exec_keepalive_ready h part value s t status hready hlen htake, hsup, hset]
  have hchallenge : u.sup.challenge = s.sup.challenge := by simp [u]
  have hparts : u.settings.inForce.partsCount = parts := by simp [u, parts]
  have hunset_iff : (u.sup.mode = .configuring ∧ u.clock.isSet = false) ↔ unset := by simp [u, unset]
  have hbad_iff : (part.toNat < 1 ∨ u.settings.inForce.partsCount < part.toNat ∨
      2 ^ bitsPerPart u.settings.inForce.partsCount ≤ value.toNat) ↔ badField := by
    rw [hparts, Nat.lt_one_iff]
    rfl
  have hcollection : u.sup.collection = s.sup.collection := by simp [u]
  have hexpected (hpart : part.toNat = s.sup.collection + 1) :
      expectedPart u.sup.challenge u.settings.inForce.partsCount part.toNat = expected := by
    rw [hchallenge, hparts]
    rfl
  have hchecked (hunset : ¬unset) (hfields : ¬badField) (hpart : part.toNat = s.sup.collection + 1) :
      u.takePart part.toNat value.toNat =
        if value.toNat ≠ expected then (.faultValue, u.wrongPart)
        else if part.toNat < parts then (.partTaken, u.withSup { u.sup with collection := part.toNat })
        else u.finalPart := by
    rw [u.takePart_eq, if_neg (mt hunset_iff.mp hunset), if_neg (mt hbad_iff.mp hfields),
      if_neg (by rw [hcollection]; exact not_not_intro hpart), hexpected hpart, hparts]
  have hmode : u.sup.mode = s.sup.mode := by simp [u]
  refine ⟨fun hunset => ?_, fun hunset hbad => ?_, fun hunset hfields hpart => ?_,
    fun hunset hfields hpart hvalue hserving hmaintenance => ?_, fun hunset hfields hpart hvalue hserving => ?_,
    fun hunset hfields hpart hvalue hmore => ?_⟩
  · refine hserved u _ hchallenge hparts ?_
    rw [u.takePart_eq, if_pos (hunset_iff.mpr hunset)]
  · refine hserved u _ hchallenge hparts ?_
    rw [u.takePart_eq, if_neg (mt hunset_iff.mp hunset), if_pos (hbad_iff.mpr hbad)]
  · refine hserved u _ hchallenge hparts ?_
    rw [u.takePart_eq, if_neg (mt hunset_iff.mp hunset), if_neg (mt hbad_iff.mp hfields), if_pos (by rwa [hcollection])]
  · refine hserved _ _ (by simp) hparts ?_
    rw [hchecked hunset hfields hpart, if_pos hvalue, State.wrongPart,
      if_neg (by simp [Mode.supervised, hmode, hserving, hmaintenance])]
    simp [u]
  · refine ⟨u.countFault .value, hserved _ _ ((u.countFault_challenge _).trans hchallenge) (by simp [hparts]) ?_,
      u.countFault_spec _⟩
    rw [hchecked hunset hfields hpart, if_pos hvalue, State.wrongPart,
      if_pos (by simpa [Mode.supervised, hmode] using hserving)]
  · refine hserved _ _ (by simp) hparts ?_
    rw [hchecked hunset hfields hpart, if_neg (not_not_intro hvalue), if_pos hmore]
    simp [u]

/-! ### The correct final part (R152, R153, R162) -/

/-- The correct final part passes every check. -/
theorem State.takePart_of_final {s : State} {part value : BitVec 8} (hfinal : IsFinalPart s part value)
    (hset : ¬(s.sup.mode = .configuring ∧ s.clock.isSet = false)) : s.takePart part.toNat value.toNat = s.finalPart := by
  obtain ⟨hparts, hpart, hcollection, hvalue⟩ := hfinal
  have hexpected : expectedPart s.sup.challenge s.settings.inForce.partsCount part.toNat =
      (255 - s.sup.challenge) % 2 ^ (8 / s.settings.inForce.partsCount) := by
    unfold expectedPart bitsPerPart
    rw [hpart]
    rcases hparts with hparts | hparts | hparts <;> simp [hparts]
  have hbound : value.toNat < 2 ^ bitsPerPart s.settings.inForce.partsCount := by
    rw [hvalue]
    exact Nat.mod_lt _ (Nat.two_pow_pos _)
  rw [s.takePart_eq, if_neg hset, if_neg (by omega), if_neg (by omega), if_neg (not_not_intro (hvalue.trans hexpected.symm)),
    if_neg (by omega)]

theorem IsFinalPart.taken {s : State} {part value : BitVec 8} (h : IsFinalPart s part value) (c : Instr) :
    IsFinalPart (s.taken c) part value := by
  unfold IsFinalPart at *
  simpa using h

/-- A completed keepalive, the mode and the two other timers having been set before it. -/
theorem KeepaliveCompleted.of_complete {s u t : State} {m : Mode} {configTimer quiet : Option Nat}
    (hlo : 1 ≤ s.sup.challenge) (hhi : s.sup.challenge ≤ 254)
    (hsup : u.sup = { s.sup with mode := m, configTimer := configTimer, quiet := quiet }) (hset : u.settings = s.settings)
    (htsup : t.sup = u.completeKeepalive.sup) (htset : t.settings = u.completeKeepalive.settings) :
    KeepaliveCompleted s t m ∧ t.sup.configTimer = configTimer ∧ t.sup.quiet = quiet := by
  have hchallenge : t.sup.challenge = nextChallenge s.sup.challenge (u.draws + 1) := by
    rw [htsup, State.completeKeepalive_sup, hsup]
  obtain ⟨hnewlo, hnewhi⟩ := nextChallenge_range s.sup.challenge (u.draws + 1)
  refine ⟨⟨by omega, by omega, ?_, ?_, ?_⟩, ?_, ?_⟩
  · rw [hchallenge]
    exact nextChallenge_ne _ _ hlo hhi
  · rw [htsup, State.completeKeepalive_sup, hsup, hset]
  · rw [htset, State.completeKeepalive_settings, hset]
    rfl
  · rw [htsup, State.completeKeepalive_sup, hsup]
  · rw [htsup, State.completeKeepalive_sup, hsup]

theorem State.completeKeepalive_eq (s : State) :
    let t := s.completeKeepalive
    t = { s with sup := t.sup, settings := t.settings, draws := t.draws } := rfl

/-- The supervision of GO before its keepalive is completed (R152). -/
def State.entering (s : State) : State := s.withSup { s.sup with mode := .serving, configTimer := none }

theorem State.go_eq (s : State) :
    s.go = (s.entering.completeKeepalive.firePass s.clock.seconds).startStarvation := rfl

theorem State.entering_completeKeepalive_eq (s : State) :
    let t := s.entering.completeKeepalive
    t = { s with sup := t.sup, settings := t.settings, draws := t.draws } := rfl

/-- Settles O25: the keepalive is completed, and `firePass_spec` gives the catch-up pass. -/
theorem finalPartInConfiguringMakesGo : Obligations.FinalPartInConfiguringMakesGo := by
  intro h part value s hready hlen hmode hset hlo hhi hfinal hlength hmarks c
  have htake : (s.taken c).takePart part.toNat value.toNat = (.done, (s.taken c).go) := by
    rw [State.takePart_of_final (hfinal.taken c) (by simp [hset])]
    unfold State.finalPart
    simp [hmode]
  have hexec := exec_keepalive_ready h part value s _ _ hready hlen htake
  have hsup : (s.taken c).entering.sup = { s.sup with mode := .serving, configTimer := none, quiet := s.sup.quiet } := by
    simp [State.entering]
  obtain ⟨hcompleted, hconfig, hquiet⟩ := KeepaliveCompleted.of_complete (t := (s.taken c).entering.completeKeepalive)
    hlo hhi hsup (by simp [State.entering]) rfl rfl
  have hentered := (s.taken c).entering_completeKeepalive_eq
  have hgo := (s.taken c).go_eq
  have hmarks : (s.taken c).entering.completeKeepalive.MarksOk :=
    hmarks.congr (by simp [State.entering]) (by simp [State.entering])
  have hlength : (s.taken c).entering.completeKeepalive.events.length = 32 := by simpa [State.entering] using hlength
  have hport : (s.taken c).entering.completeKeepalive.port = s.port := by simp [State.entering]
  rw [show (s.taken c).clock.seconds = s.clock.seconds by simp] at hgo
  generalize (s.taken c).entering.completeKeepalive = u at hcompleted hconfig hquiet hentered hgo hmarks hlength hport
  obtain ⟨hpass, hpassed, hnone⟩ := u.firePass_spec s.clock.seconds hmarks hlength
  refine ⟨u, _, _, hexec, hcompleted, hconfig, hquiet, hentered, hpass, hpassed, hnone, ?_⟩
  have hvport : (u.firePass s.clock.seconds).port = s.port := by simp [hport]
  rw [hgo, State.startStarvation, hvport]

/-- Settles O26: the final part is early or completes the keepalive. -/
theorem finalPartInServiceIsJudged : Obligations.FinalPartInServiceIsJudged := by
  intro h part value s p hready hlen hmode hperiod hlo hhi hfinal c early
  have hearly : (s.taken c).sup.early = true ↔ early := by
    simp [Supervision.early, hperiod, early]
  have hserved : (s.taken c).takePart part.toNat value.toNat =
      if (s.taken c).sup.early then (.faultEarly, (s.taken c).countFault .early)
      else (.done, (s.taken c).completeKeepalive) := by
    rw [State.takePart_of_final (hfinal.taken c) (by rcases hmode with hmode | hmode <;> simp [hmode])]
    unfold State.finalPart
    rcases hmode with hmode | hmode <;> simp [hmode]
  refine ⟨fun he => ?_, fun he => ?_⟩
  · refine ⟨(s.taken c).countFault .early, ?_, State.countFault_spec _ _⟩
    rw [if_pos (hearly.mpr he)] at hserved
    rw [exec_keepalive_ready h part value s _ _ hready hlen hserved, State.countFault_challenge]
    simp [c]
  · rw [if_neg (mt hearly.mp he)] at hserved
    obtain ⟨hcompleted, hconfig, hquiet⟩ := KeepaliveCompleted.of_complete (t := (s.taken c).completeKeepalive) hlo hhi
      (show (s.taken c).sup =
        { s.sup with mode := s.sup.mode, configTimer := s.sup.configTimer, quiet := s.sup.quiet } by simp)
      (by simp) rfl rfl
    exact ⟨_, exec_keepalive_ready h part value s _ _ hready hlen hserved, hcompleted, hconfig, hquiet, rfl⟩

/-- The return to SERVING block by block (R162). -/
theorem State.resume_spec (s : State) :
    let w := s.withSup { s.sup with mode := .serving, quiet := none }
    s.resume.sup = w.completeKeepalive.sup ∧ s.resume.settings = w.completeKeepalive.settings ∧
    s.resume.link = { s.link with errors := 0 } ∧
    s.resume.port =
      (if s.sup.mode = .standdown then { s.port with starvation := some 2000, starved := false } else s.port) ∧
    s.resume.notices = (s.post .serviceResumed .none (.resumed s.sup.mode)).notices ∧
    s.resume = { s with
      sup := s.resume.sup, settings := s.resume.settings, draws := s.resume.draws, link := s.resume.link,
      port := s.resume.port, notices := s.resume.notices } := by
  intro w
  let port := if s.sup.mode = .standdown then { s.port with starvation := some 2000, starved := false } else s.port
  have hw : w.completeKeepalive.settings.current = s.settings.current := rfl
  obtain ⟨sup, settings, draws, hcomplete⟩ : ∃ sup settings draws,
      w.completeKeepalive = { s with sup := sup, settings := settings, draws := draws } := ⟨_, _, _, rfl⟩
  let x := (w.completeKeepalive.withLink { s.link with errors := 0 }).withPort port
  have hresume : s.resume = x.post .serviceResumed .none (.resumed s.sup.mode) := by
    have hstart (y : State) (hy : y.port = s.port) :
        (if s.sup.mode = .standdown then y.startStarvation else y) = y.withPort port := by
      by_cases hstand : s.sup.mode = .standdown
      · simp only [port, if_pos hstand, ← hy]
        rfl
      · simp only [port, if_neg hstand, ← hy]
        rfl
    exact congrArg (State.post · .serviceResumed .none (.resumed s.sup.mode)) (hstart _ rfl)
  have hnotices : (x.post .serviceResumed .none (.resumed s.sup.mode)).notices =
      (s.post .serviceResumed .none (.resumed s.sup.mode)).notices := by
    exact State.post_notices_congr _ _ _ _ _ hw (by simp only [x, hcomplete]; rfl) (by simp only [x, hcomplete]; rfl)
  rw [hresume, State.post_eq, hnotices]
  simp only [x, hcomplete]
  exact ⟨rfl, rfl, rfl, rfl, rfl, rfl⟩

/-- Settles O27: by `resume_spec`. -/
theorem finalPartResumesService : Obligations.FinalPartResumesService := by
  intro h part value s hready hlen hmode hlo hhi hfinal c
  have htake : (s.taken c).takePart part.toNat value.toNat = (.done, (s.taken c).resume) := by
    rw [State.takePart_of_final (hfinal.taken c) (by rcases hmode with hmode | hmode <;> simp [hmode])]
    unfold State.finalPart
    rcases hmode with hmode | hmode <;> simp [hmode]
  let w := (s.taken c).withSup { (s.taken c).sup with mode := .serving, quiet := none }
  obtain ⟨hsup, hset, hlink, hport, hnotices, heq⟩ := (s.taken c).resume_spec
  obtain ⟨hcompleted, hconfig, hquiet⟩ := KeepaliveCompleted.of_complete (u := w) hlo hhi
    (show w.sup = { s.sup with mode := .serving, configTimer := s.sup.configTimer, quiet := none } by simp [w])
    (by simp [w]) hsup hset
  refine ⟨_, exec_keepalive_ready h part value s _ _ hready hlen htake, hcompleted, hconfig, hquiet, hlink, ?_, ?_, heq⟩
  · rw [hport]
    simp
  · rw [hnotices, show (s.taken c).sup.mode = s.sup.mode by simp]
    exact State.post_notices_congr (s.taken c) s _ _ _ (by simp) (by simp) (by simp)

/-! ### MAINTENANCE (R156) -/

theorem exec_maintenanceEnter (h : Hdr) (form : BitVec 8) (s : State) :
    exec (.maintenanceEnter h form) s = serve (.maintenanceEnter h form) (maintenanceEnterRule form) s := rfl

/-- A new period in the mode m, as one record update (R153, R156). -/
theorem State.changeMode_eq (s : State) (m : Mode) :
    s.changeMode m = (s.withSettings (periodSettings s.settings)).withSup
      { s.sup with mode := m, period := some (periodOf s.settings.current m), windowOn := windowOf s.settings.current m } :=
  rfl

theorem serve_wrongMode (c : Instr) (rule : State → Answer) (s : State) (h : s.ready) (hm : servedIn s.sup.mode c = false) :
    serve c rule s = .next ((s.taken c).answer c .wrongMode .none) := by
  rw [serve_ready c rule s h]
  unfold State.serveTaken
  simp only [State.taken_frame, hm, Bool.not_false, if_true]
  rfl

/-- Settles O28: by the mode table and the two rules. -/
theorem maintenanceChangesTheMode : Obligations.MaintenanceChangesTheMode := by
  intro h s hready hlen enter exit now inForce
  have henter (form : BitVec 8) (hmode : s.sup.mode = .serving ∨ s.sup.mode = .maintenance) (t : State) (status : Status)
      (hrule : maintenanceEnterRule form (s.taken (.maintenanceEnter h form)) = plainReply status t) :
      exec (.maintenanceEnter h form) s = .next (t.answer (.maintenanceEnter h form) status .none) :=
    serve_plainReply _ _ s t status hready (by rcases hmode with hmode | hmode <;> rw [hmode] <;> rfl)
      (by simp [lengthOk, hlen]) hrule
  refine ⟨fun hmode => ?_, fun hmode => ?_, fun hmode => ?_, fun hmode => ?_, fun hserving hmaintenance => ?_,
    fun form hform hmode => ?_⟩
  · refine henter 1 (.inl hmode) _ _ ?_
    simp [maintenanceEnterRule, hmode, State.changeMode_eq, periodSettings, periodOf, windowOf, enter, inForce, now]
  · refine serve_plainReply exit _ s _ .done hready (by rw [hmode]; rfl) (by simp [exit, lengthOk, hlen]) ?_
    simp [State.changeMode_eq, periodSettings, periodOf, windowOf, exit, inForce, now]
  · exact henter 1 (.inr hmode) _ _ (by simp [maintenanceEnterRule, hmode, enter])
  · exact serve_wrongMode exit _ s hready (beq_eq_false_iff_ne.mpr hmode)
  · refine serve_wrongMode enter (maintenanceEnterRule 1) s hready ?_
    cases hm : s.sup.mode
    case serving => exact absurd hm hserving
    case maintenance => exact absurd hm hmaintenance
    all_goals rfl
  · refine henter form hmode _ _ (if_pos fun hcode => hform ?_)
    exact BitVec.eq_of_toNat_eq hcode

/-! ### The period and quiet timers (R154, R159) -/

/-- Settles O29: the fault of an elapsed period is `countFault`. -/
theorem missedPeriodsLeadToHoldover : Obligations.MissedPeriodsLeadToHoldover := by
  intro s p hrun hmode hperiod
  refine ⟨s.countFault .missed, ?_, s.countFault_spec _⟩
  change s.live State.periodElapsed = _
  rw [State.live_running s _ hrun, State.periodElapsed,
    if_pos ⟨by simp [hperiod], by simpa [Mode.supervised] using hmode⟩]

/-- Settles O30: the expiry is an entry to STANDDOWN. -/
theorem quietExpiryEntersStanddown : Obligations.QuietExpiryEntersStanddown := by
  intro s left hrun hquiet
  change s.live State.quietElapsed = _
  rw [State.live_running s _ hrun, State.quietElapsed, if_pos (by simp [hquiet])]
  rfl

end Sys2Proof.Machine
end

section
/-! PROOF. The Cue Monitor: CUE BIND, CUE CLEAR, pin changes, accepted edges, cooling and settling (R137 to R147). -/

namespace Sys2Proof.Machine

/-! ### The kickoff cue bound flags (R1, R5) -/

/-- An event's entry with the flag that the bindings give it. -/
def State.flagged (s : State) (i : Nat) (e : EventEntry) : EventEntry := { e with cueBound := s.cues.kickoffBound i }

/-- The marks of event i after its flag is set anew: an ON_SALE event whose flag changes has its KICKOFF mark moved. -/
def State.flaggedMarks (s : State) (i : Nat) : List Mark :=
  match s.event? i with
  | some e =>
    if e.state = .onSale ∧ e.cueBound ≠ s.cues.kickoffBound i then
      ((s.flagged i e).markFor i s.settings.current.kickoffTolerance).toList
    else s.marks.filter fun m => m.event == i
  | none => s.marks.filter fun m => m.event == i

/-- What setting one flag leaves. -/
structure State.FlagSet (s t : State) (l : List Nat) : Prop where
  frame : t = { s with events := t.events, marks := t.marks }
  length : t.events.length = s.events.length
  event (j : Nat) : t.event? j = if j ∈ l then (s.event? j).map (s.flagged j) else s.event? j
  marks (j : Nat) :
    t.marks.filter (fun m => m.event == j) = if j ∈ l then s.flaggedMarks j else s.marks.filter fun m => m.event == j
  sorted (h : s.marks.Pairwise fun a b => a.before b = true) : t.marks.Pairwise fun a b => a.before b = true

theorem State.flaggedMarks_none {s : State} {i : Nat} (h : s.event? i = none) :
    s.flaggedMarks i = s.marks.filter fun m => m.event == i := by
  simp [State.flaggedMarks, h]

theorem State.flaggedMarks_some {s : State} {i : Nat} {e : EventEntry} (h : s.event? i = some e) :
    s.flaggedMarks i =
      if e.state = .onSale ∧ e.cueBound ≠ s.cues.kickoffBound i then
        ((s.flagged i e).markFor i s.settings.current.kickoffTolerance).toList
      else s.marks.filter fun m => m.event == i := by
  simp [State.flaggedMarks, h]

/-- One flag set anew (R1, R5). -/
theorem State.refreshKickoffFlag_spec (s : State) (i : Nat) : s.FlagSet (s.refreshKickoffFlag i) [i] := by
  cases hi : s.event? i with
  | none =>
    have hsame : s.refreshKickoffFlag i = s := by
      unfold State.refreshKickoffFlag
      rw [hi]
    rw [hsame]
    refine ⟨rfl, rfl, fun j => ?_, fun j => ?_, id⟩
    · by_cases hj : j = i
      · subst hj
        simp [hi]
      · simp [hj]
    · by_cases hj : j = i
      · subst hj
        simp [State.flaggedMarks_none hi]
      · simp [hj]
  | some e =>
    let w := s.withEvents (s.events.set i (some (s.flagged i e)))
    have hrefresh : s.refreshKickoffFlag i =
        if e.state = .onSale ∧ e.cueBound ≠ s.cues.kickoffBound i then w.placeMark i else w := by
      unfold State.refreshKickoffFlag
      rw [hi]
      rfl
    have hevent (j : Nat) : w.event? j = if j ∈ [i] then (s.event? j).map (s.flagged j) else s.event? j := by
      rw [event?_set s i _ (s.event?_lt i e hi) j]
      by_cases hj : j = i
      · subst hj
        simp [hi]
      · simp [hj]
    rw [hrefresh]
    split
    next hmoves =>
      have hwi : w.event? i = some (s.flagged i e) := by simp [hevent, hi]
      have hmarks := w.placeMark_marks i _ hwi
      have hone := EventEntry.markFor_event (s.flagged i e) i w.settings.current.kickoffTolerance
      have hplaced := w.placeMark_eq i
      refine ⟨hplaced.trans (by simp [w, State.withMarks]), by simp [w], fun j => ?_, fun j => ?_, fun hsorted => ?_⟩
      · rw [← hevent j, hplaced]
        rfl
      · rw [hmarks]
        by_cases hj : j = i
        · subst hj
          rw [filter_replaceMark_self _ _ _ hone, if_pos (by simp), State.flaggedMarks_some hi, if_pos hmoves]
          rfl
        · rw [filter_replaceMark_other _ _ _ hj _ hone, if_neg (by simpa using hj)]
          rfl
      · rw [hmarks]
        exact pairwise_replaceMark _ _ _ hone hsorted
    next hkeeps =>
      refine ⟨rfl, by simp [w], hevent, fun j => ?_, id⟩
      by_cases hj : j = i
      · subst hj
        rw [if_pos (by simp), State.flaggedMarks_some hi, if_neg hkeeps]
        rfl
      · rw [if_neg (by simpa using hj)]
        rfl

theorem State.FlagSet.cues {s t : State} {l : List Nat} (h : s.FlagSet t l) : t.cues = s.cues := by rw [h.frame]

theorem State.FlagSet.settings {s t : State} {l : List Nat} (h : s.FlagSet t l) : t.settings = s.settings := by rw [h.frame]

/-- A flag already set is not set again. -/
theorem State.FlagSet.flaggedMarks {s t : State} {l : List Nat} (h : s.FlagSet t l) (j : Nat) :
    t.flaggedMarks j = s.flaggedMarks j := by
  by_cases hj : j ∈ l
  · have hevent := h.event j
    have hmarks := h.marks j
    rw [if_pos hj] at hevent hmarks
    cases hs : s.event? j with
    | none => rw [State.flaggedMarks_none (by rw [hevent, hs]; rfl), hmarks]
    | some e =>
      rw [State.flaggedMarks_some (e := s.flagged j e) (by rw [hevent, hs]; rfl), hmarks, if_neg]
      rw [h.cues]
      simp [State.flagged]
  · have hevent := h.event j
    have hmarks := h.marks j
    rw [if_neg hj] at hevent hmarks
    unfold State.flaggedMarks State.flagged
    rw [hevent, hmarks, h.cues, h.settings]

theorem State.FlagSet.trans {s t u : State} {l l' : List Nat} (h : s.FlagSet t l) (h' : t.FlagSet u l') :
    s.FlagSet u (l ++ l') := by
  have hflagged (j : Nat) : t.flagged j = s.flagged j := by
    funext e
    unfold State.flagged
    rw [h.cues]
  refine ⟨?_, h'.length.trans h.length, fun j => ?_, fun j => ?_, fun hsorted => h'.sorted (h.sorted hsorted)⟩
  · rw [h'.frame, h.frame]
  · rw [h'.event, h.event, hflagged]
    have hidem : s.flagged j ∘ s.flagged j = s.flagged j := rfl
    by_cases hj : j ∈ l <;> simp [hj, hidem]
  · rw [h'.marks, h.flaggedMarks, h.marks]
    by_cases hj : j ∈ l <;> simp [hj]

theorem State.refreshFlags_spec (s : State) (l : List (Option Nat)) : s.FlagSet (s.refreshFlags l) (l.filterMap id) := by
  unfold State.refreshFlags
  induction l.filterMap id generalizing s with
  | nil => exact ⟨rfl, rfl, fun j => by simp, fun j => by simp, id⟩
  | cons i l ih => exact (s.refreshKickoffFlag_spec i).trans (ih _)

theorem CueMonitor.kickoffBound_iff (c : CueMonitor) (i : Nat) :
    c.kickoffBound i = true ↔ ∃ x ∈ c.lines, ∃ b, x.binding = some b ∧ b.event = i ∧ b.action = .kickoff := by
  unfold CueMonitor.kickoffBound
  rw [List.any_eq_true]
  refine exists_congr fun x => and_congr_right fun _ => ?_
  unfold CueLine.kicksOff
  cases x.binding <;> simp

/-! ### CUE BIND and CUE CLEAR (R138, R139, R146) -/

theorem modeServes_cues {m : Mode} (hm : settingModes m) : modeServes m 0x0C = true ∧ modeServes m 0x0D = true := by
  rcases hm with rfl | rfl | rfl <;> decide

theorem State.reserved_iff (s : State) (n : Nat) : s.reserved n = true ↔ s.sup.policy = .cueStanddown ∧ n = 0 := by
  simp [State.reserved]

theorem exec_cueBind (h : Hdr) (line ev action level : BitVec 8) (debounce : BitVec 16) (s : State) :
    exec (.cueBind h line ev action level debounce) s =
      serve (.cueBind h line ev action level debounce) (cueBindRule line ev action level debounce) s := rfl

theorem exec_cueClearUnbind (h : Hdr) (line form : BitVec 8) (s : State) :
    exec (.cueClearUnbind h line form) s = serve (.cueClearUnbind h line form) (cueUnbindRule line form) s := rfl

theorem exec_cueClearRelease (h : Hdr) (line form : BitVec 8) (s : State) :
    exec (.cueClearRelease h line form) s = serve (.cueClearRelease h line form) (cueReleaseRule line form) s := rfl

/-- The fields that CUE BIND admits (R138). -/
def BindFields (line ev action level : BitVec 8) (debounce : BitVec 16) : Prop :=
  line.toNat < 8 ∧ ev.toNat < 32 ∧ (cueActionOf action).isSome = true ∧ level.toNat ≤ 1 ∧ 10 ≤ debounce.toNat ∧
  debounce.toNat ≤ 500

theorem cueBindRule_of_not_fields {line ev action level : BitVec 8} {debounce : BitVec 16} {s : State}
    (h : ¬BindFields line ev action level debounce) :
    cueBindRule line ev action level debounce s = plainReply .badField s := by
  unfold cueBindRule
  cases ha : cueActionOf action with
  | none => rfl
  | some a =>
    refine if_pos ?_
    simp only [Bool.or_eq_true, decide_eq_true_eq]
    unfold BindFields at h
    rw [ha] at h
    simp only [Option.isSome_some, true_and] at h
    omega

theorem cueBindRule_of_fields {line ev action level : BitVec 8} {debounce : BitVec 16} {s : State} {a : CueAction}
    (h : BindFields line ev action level debounce) (ha : cueActionOf action = some a) :
    cueBindRule line ev action level debounce s =
      if s.reserved line.toNat then plainReply .inUse s
      else
        let old := s.finishPass.cues.line line.toNat
        let new := CueLine.bound ⟨ev.toNat, a, level.toNat == 1, debounce.toNat⟩ (s.finishPass.cues.pins.getLsbD line.toNat)
        (some (.done, .cueContext old),
          (s.finishPass.setLine line.toNat new).refreshFlags [old.kickoffEvent, new.kickoffEvent]) := by
  obtain ⟨hline, hev, -, hlevel, hlo, hhi⟩ := h
  unfold cueBindRule
  rw [ha]
  refine if_neg ?_
  simp only [Bool.or_eq_true, decide_eq_true_eq]
  omega

/-- The checks of CUE CLEAR with its form in place (R139, R146). -/
theorem cueClearRefusal_eq {code : Nat} {line form : BitVec 8} {s : State} (h : form.toNat = code) :
    cueClearRefusal code line form s =
      if 8 ≤ line.toNat then some .badField
      else if s.sup.policy = .cueStanddown ∧ line.toNat = 0 then some .inUse
      else if (s.cues.line line.toNat).state = .unbound then some .wrongState
      else none := by
  unfold cueClearRefusal
  simp only [h, bne_self_eq_false, Bool.or_false, decide_eq_true_eq, State.reserved_iff]

theorem CueLine.release_eq (l : CueLine) (pin : Bool) :
    l.release pin =
      { l with state := if l.state = .lockedOut then .armed pin none [] else l.state, episodes := 0 } := by
  unfold CueLine.release
  cases l.state <;> simp

/-- The flags after a change of bindings, as the statement reads them. -/
theorem State.FlagSet.onSale {s t : State} {l : List (Option Nat)} (h : s.FlagSet t (l.filterMap id)) {i : Nat} {e : EventEntry}
    (hi : some i ∈ l) (he : s.event? i = some e) :
    t.event? i = some { e with cueBound := s.cues.kickoffBound i } ∧
    (e.state = .onSale → s.cues.kickoffBound i ≠ e.cueBound →
      t.marks.filter (fun m => m.event == i) =
        [⟨i, .kickoff,
          if s.cues.kickoffBound i then e.kickoff + s.settings.current.kickoffTolerance else e.kickoff⟩]) ∧
    (e.state ≠ .onSale ∨ s.cues.kickoffBound i = e.cueBound →
      t.marks.filter (fun m => m.event == i) = s.marks.filter (fun m => m.event == i)) := by
  have hmem : i ∈ l.filterMap id := by simpa using hi
  have hevent := h.event i
  have hmarks := h.marks i
  rw [if_pos hmem, he] at hevent
  rw [if_pos hmem, State.flaggedMarks_some he] at hmarks
  refine ⟨hevent, fun hsale hflag => ?_, fun hkeeps => ?_⟩
  · rw [hmarks, if_pos ⟨hsale, hflag.symm⟩]
    simp [State.flagged, EventEntry.markFor, hsale]
  · rw [hmarks, if_neg]
    rintro ⟨hsale, hflag⟩
    exact hkeeps.elim (· hsale) fun heq => hflag heq.symm

/-- Settles O20: the rules of the two commands, and `refreshFlags_spec` for the flags. -/
theorem cueCommandsSetTheContext : Obligations.CueCommandsSetTheContext := by
  refine ⟨fun h line ev action level debounce s hready hmode hlen => ?_, fun h line s hready hpass hmode hlen => ?_,
    fun s l => ?_⟩
  · intro fields c u n old
    have hserved (t : State) (status : Status) (reply : ReplyFields)
        (hrule : cueBindRule line ev action level debounce u = (some (status, reply), t)) :
        exec c s = .next (t.answer c status reply) :=
      serve_reply c _ s t status reply hready (modeServes_cues hmode).1 (by simp [c, lengthOk, hlen]) hrule
    refine ⟨fun hfields => hserved _ _ _ (cueBindRule_of_not_fields hfields), fun a hfields ha hpass => ?_⟩
    intro new
    have hrule := cueBindRule_of_fields (s := u) hfields ha
    have hidle : u.finishPass = u := s.finishPass_taken_idle c hpass
    have hcues : u.cues = s.cues := by simp [u]
    rw [hidle, hcues] at hrule
    have hreserved : u.reserved line.toNat = true ↔ s.sup.policy = .cueStanddown ∧ n = 0 := by
      rw [State.reserved_iff]
      simp [u, n]
    by_cases hline : s.sup.policy = .cueStanddown ∧ n = 0
    · rw [if_pos hline]
      exact hserved _ _ _ (hrule.trans (if_pos (hreserved.mpr hline)))
    · rw [if_neg hline]
      exact hserved _ _ _ (hrule.trans (if_neg (mt hreserved.mp hline)))
  · intro n old refusal unbind release released
    have hrefusal (c : Instr) : cueClearRefusal 1 line 1 (s.taken c) = refusal ∧ cueClearRefusal 2 line 2 (s.taken c) = refusal := by
      rw [cueClearRefusal_eq (code := 1) (form := 1) rfl, cueClearRefusal_eq (code := 2) (form := 2) rfl]
      simp only [State.taken_frame]
      exact ⟨rfl, rfl⟩
    have hidle := s.finishPass_taken_idle unbind hpass
    have hunbind (t : State) (status : Status) (reply : ReplyFields)
        (hrule : cueUnbindRule line 1 (s.taken unbind) = (some (status, reply), t)) :
        exec unbind s = .next (t.answer unbind status reply) :=
      serve_reply unbind _ s t status reply hready (modeServes_cues hmode).2 (by simp [unbind, lengthOk, hlen]) hrule
    have hrelease (t : State) (status : Status) (reply : ReplyFields)
        (hrule : cueReleaseRule line 2 (s.taken release) = (some (status, reply), t)) :
        exec release s = .next (t.answer release status reply) :=
      serve_reply release _ s t status reply hready (modeServes_cues hmode).2 (by simp [release, lengthOk, hlen]) hrule
    cases hr : refusal with
    | some status =>
      refine ⟨hunbind _ _ _ ?_, hrelease _ _ _ ?_⟩
      · unfold cueUnbindRule
        rw [(hrefusal unbind).1, hr]
        rfl
      · unfold cueReleaseRule
        rw [(hrefusal release).2, hr]
        rfl
    | none =>
      refine ⟨hunbind _ _ _ ?_, hrelease _ _ _ ?_⟩
      · unfold cueUnbindRule
        rw [(hrefusal unbind).1, hr]
        simp only [hidle, State.taken_frame]
        rfl
      · unfold cueReleaseRule
        rw [(hrefusal release).2, hr]
        simp only [CueLine.release_eq, State.taken_frame]
        rfl
  · intro t bound
    have hset := s.refreshFlags_spec l
    have hmem (i : Nat) : i ∈ l.filterMap id ↔ some i ∈ l := by simp
    refine ⟨hset.frame, hset.length, fun i hi => ?_, fun i hi => ?_, fun i e hi he => ?_, fun i hi => ?_, hset.sorted⟩
    · exact (hset.event i).trans (if_neg (mt (hmem i).mp hi))
    · rw [hset.event i, hi]
      exact ite_self _
    · exact ⟨s.cues.kickoffBound i, s.cues.kickoffBound_iff i, hset.onSale hi he⟩
    · exact (hset.marks i).trans (if_neg (mt (hmem i).mp hi))

/-! ### Pin changes (R140, R144 to R147) -/

theorem getLsbD_setPin (pins : BitVec 8) (n : Nat) (level : Bool) (hn : n < 8) (k : Nat) (hk : k < 8) :
    (setPin pins n level).getLsbD k = if k = n then level else pins.getLsbD k := by
  unfold setPin
  cases level
  · by_cases hkn : k = n
    · subst hkn
      simp [hk]
    · simp [hkn, hk]
  · by_cases hkn : k = n
    · subst hkn
      simp [hk]
    · simp [hkn, hk]

theorem CueMonitor.line_setLine (c : CueMonitor) (n : Nat) (l : CueLine) (hn : n < c.lines.length) (k : Nat) :
    (c.setLine n l).line k = if k = n then l else c.line k := by
  unfold CueMonitor.line CueMonitor.setLine
  simp only [List.getD_eq_getElem?_getD, List.getElem?_set]
  by_cases hk : k = n
  · subst hk
    simp [hn]
  · simp [hk, Ne.symm hk]

theorem exec_cuePinChange (n : Nat) (level : Bool) (s : State) : exec (.cuePinChange n level) s = .next (s.pinChange n level) :=
  rfl

/-- A pin that changes (R140, R147). -/
theorem State.pinChange_of_changed {s : State} {n : Nat} {level : Bool} (hn : n < 8) (hpin : s.cues.pins.getLsbD n ≠ level) :
    let c := { s.cues with pins := setPin s.cues.pins n level }
    s.pinChange n level =
      if s.run ≠ .running then s.withCues c
      else if s.reserved n then s.withCues (c.settle level)
      else s.withCues (c.setLine n ((c.line n).pinChange level)) :=
  if_neg (not_or.mpr ⟨hpin, by omega⟩)

/-- Settles O21: `CueLine.pinChange` gives the line, and the other lines stand. -/
theorem pinChangesRunTheDebounceTimer : Obligations.PinChangesRunTheDebounceTimer := by
  intro n level s hrun hn hreserved hlines hpin
  let c := { s.cues with pins := setPin s.cues.pins n level }
  let t := s.withCues (c.setLine n ((c.line n).pinChange level))
  have hchange : s.pinChange n level = t := by
    rw [State.pinChange_of_changed hn hpin, if_neg (not_not_intro hrun), if_neg (by simp [hreserved])]
  have hline (k : Nat) : t.cues.line k = if k = n then (s.cues.line n).pinChange level else s.cues.line k :=
    c.line_setLine n _ (by simpa [c, hlines] using hn) k
  refine ⟨t, by rw [exec_cuePinChange, hchange], rfl, fun k hk => getLsbD_setPin _ _ _ hn k hk,
    fun k hk => by rw [hline, if_neg hk], rfl, rfl, ?_⟩
  have hself := hline n
  rw [if_pos rfl] at hself
  rw [hself]
  obtain ⟨state, binding, episodes, lastCapture⟩ := s.cues.line n
  cases state <;> cases binding <;> rfl

/-! ### Accepted edges (R140, R141, R143) -/

theorem exec_debounceExpiry (n now : Nat) (s : State) :
    exec (.debounceExpiry n now) s = s.live fun s => s.acceptEdge n now := rfl

theorem isChatter_iff (history : List Nat) (now : Nat) :
    isChatter history now = true ↔ history.length = 4 ∧ now ≤ history.headD 0 + 2000 := by
  cases history <;> simp [isChatter]

theorem pushEdge_eq {history : List Nat} (h : history.length ≤ 4) (now : Nat) :
    pushEdge history now = if history.length = 4 then history.tail ++ [now] else history ++ [now] := by
  unfold pushEdge
  rw [List.drop_one]
  by_cases hfull : history.length = 4
  · rw [if_neg (by omega), if_pos hfull]
  · rw [if_pos (by omega), if_neg hfull]

/-- A debounce expiry on an ARMED line (R140, R141, R143). -/
theorem State.acceptEdge_eq {s : State} {n now left : Nat} {reference : Bool} {history : List Nat} {b : Binding}
    (hstate : (s.cues.line n).state = .armed reference (some left) history) (hbinding : (s.cues.line n).binding = some b) :
    let pin := s.cues.pins.getLsbD n
    let stamped := { s.cues.line n with lastCapture := some ⟨s.clock.seconds, s.clock.ms, pin == b.active⟩ }
    let accepted := s.setLine n { stamped with state := .armed pin none (pushEdge history now) }
    s.acceptEdge n now =
      if isChatter history now then s.beginEpisode n stamped
      else
        match b.action.requested (pin == b.active) with
        | some a => accepted.cueRequest n a b.event s.clock.seconds s.clock.ms
        | none => accepted := by
  unfold State.acceptEdge
  generalize s.cues.line n = l at *
  obtain ⟨state, binding, episodes, lastCapture⟩ := l
  dsimp only at hstate hbinding
  subst hstate hbinding
  rfl

/-- A chatter episode (R143). -/
theorem State.beginEpisode_eq (s : State) (n : Nat) (l : CueLine) :
    let count := l.episodes + 1
    s.beginEpisode n l =
      if count < 3 then
        (s.setLine n { l with episodes := count, state := .cooling 10000 }).post .cueChatter (.line n) (.quantity count)
      else
        ((s.setLine n { l with episodes := count, state := .lockedOut }).post .cueChatter (.line n)
          (.quantity count)).post .cueLockedOut (.line n) (.quantity 3) := by
  unfold State.beginEpisode
  by_cases hcount : l.episodes + 1 < 3
  · simp only [if_pos hcount]
  · simp only [if_neg hcount]

theorem State.cueRequest_configuring {s : State} (h : s.sup.mode = .configuring) (line : Nat) (a : Action) (i seconds ms : Nat) :
    s.cueRequest line a i seconds ms = s := if_pos h

/-- Settles O22: by `acceptEdge_eq`, and `cueRequest_spec` for the request. -/
theorem debounceExpiryAcceptsAnEdge : Obligations.DebounceExpiryAcceptsAnEdge := by
  intro n now s reference left history b hrun hn hhistory hlines hstate hbinding pin into stamped count edges accepted wanted
  have hexec : exec (.debounceExpiry n now) s = .next (s.acceptEdge n now) := by
    rw [exec_debounceExpiry, State.live_running s _ hrun]
  have hedge := State.acceptEdge_eq (now := now) hstate hbinding
  have hwanted : b.action.requested into = wanted := by
    simp only [wanted]
    cases b.action <;> cases into <;> rfl
  rw [pushEdge_eq hhistory now] at hedge
  refine ⟨fun hchatter => ?_, fun hchatter => ?_⟩
  · have hepisode := (hedge.trans (if_pos ((isChatter_iff history now).mpr hchatter))).trans (s.beginEpisode_eq n stamped)
    exact hexec.trans (congrArg _ hepisode)
  · have hrequest (o : Option Action) (ho : wanted = o) :
        s.acceptEdge n now = o.elim accepted fun a => accepted.cueRequest n a b.event s.clock.seconds s.clock.ms := by
      rw [← ho, ← hwanted]
      refine (hedge.trans (if_neg (mt (isChatter_iff history now).mp hchatter))).trans ?_
      cases b.action.requested into <;> rfl
    rw [hexec]
    refine ⟨fun hnone => ?_, fun a ha hmode hpass => ?_⟩
    · rcases hnone with hnone | hmode
      · rw [hrequest none hnone]
        rfl
      · rw [hrequest wanted rfl]
        cases wanted with
        | none => rfl
        | some a => rw [Option.elim_some, State.cueRequest_configuring (s := accepted) hmode]
    · exact ⟨_, congrArg _ (hrequest _ ha), accepted.cueRequest_spec n a b.event hmode hpass⟩

/-! ### Cooling and settling (R144, R147, R160) -/

theorem exec_coolingTimerExpiry (n : Nat) (s : State) :
    exec (.coolingTimerExpiry n) s = s.live fun s => s.endCooling n := rfl

theorem exec_settlingTimerExpiry (s : State) : exec .settlingTimerExpiry s = s.live State.settlingDone := rfl

/-- The end of a cooling period (R144). -/
theorem State.endCooling_eq {s : State} {n left : Nat} {b : Binding} (hstate : (s.cues.line n).state = .cooling left)
    (hbinding : (s.cues.line n).binding = some b) :
    let pin := s.cues.pins.getLsbD n
    let armed := { s.cues.line n with state := .armed pin none [] }
    let captured := s.setLine n { armed with lastCapture := some ⟨s.clock.seconds, s.clock.ms, true⟩ }
    s.endCooling n =
      if b.action = .hold ∧ pin = b.active then captured.cueRequest n .suspend b.event s.clock.seconds s.clock.ms
      else s.setLine n armed := by
  unfold State.endCooling
  generalize s.cues.line n = l at *
  obtain ⟨state, binding, episodes, lastCapture⟩ := l
  dsimp only at hstate hbinding
  subst hstate hbinding
  rfl

/-- The settling timer runs out (R147, R160). -/
theorem State.settlingDone_eq {s : State} {left : Nat} (h : s.cues.settling = some left) :
    let t := s.withCues { s.cues with asserted := !s.cues.asserted, settling := none }
    s.settlingDone =
      if s.cues.asserted = false ∧ s.sup.mode = .holdover ∧ s.sup.policy = .cueStanddown then t.enterStanddown true else t := by
  intro t
  have hdone : s.settlingDone =
      if (!s.cues.asserted) = true ∧ s.sup.mode = .holdover ∧ s.sup.policy = .cueStanddown then t.enterStanddown true
      else t := by
    unfold State.settlingDone
    rw [h]
    rfl
  rw [hdone]
  simp only [Bool.not_eq_true']

/-- Settles O23: the three expiries and the reserved pin. -/
theorem coolingAndSettlingEndOnThePinLevel : Obligations.CoolingAndSettlingEndOnThePinLevel := by
  refine ⟨fun n left s b hrun hpass hstate hbinding => ?_, fun level s hrun hpolicy hpin => ?_, fun s left hrun hsettling => ?_⟩
  · intro pin armed captured
    have hexec : exec (.coolingTimerExpiry n) s = .next (s.endCooling n) := by
      rw [exec_coolingTimerExpiry, State.live_running s _ hrun]
    have hend := State.endCooling_eq hstate hbinding
    refine ⟨fun hidle => ?_, fun haction hactive => ?_⟩
    · exact hexec.trans (congrArg _ (hend.trans (if_neg hidle)))
    · have hend : s.endCooling n = captured.cueRequest n .suspend b.event s.clock.seconds s.clock.ms :=
        hend.trans (if_pos ⟨haction, hactive⟩)
      refine ⟨fun hmode => ?_, fun hmode => ?_⟩
      · rw [hexec, hend, State.cueRequest_configuring (s := captured) hmode]
      · exact ⟨_, hexec.trans (congrArg _ hend), captured.cueRequest_spec n .suspend b.event hmode hpass⟩
  · refine ⟨setPin s.cues.pins 0 level, fun k hk => getLsbD_setPin _ _ _ (by omega) k hk, ?_⟩
    rw [exec_cuePinChange, State.pinChange_of_changed (by omega) hpin, if_neg (not_not_intro hrun),
      if_pos ((s.reserved_iff 0).mpr ⟨hpolicy, rfl⟩)]
    rfl
  · rw [exec_settlingTimerExpiry, State.live_running s _ hrun, State.settlingDone_eq hsettling]

end Sys2Proof.Machine
end

section
/-! PROOF. RESET, the starts and what a held part does (R96, R148, R149, R158, R163, R164, R167). -/

namespace Sys2Proof.Machine

/-! ### RESET and the table resets (R149, R163) -/

theorem modeServes_reset (m : Mode) : modeServes m 0x1C = true := modeServes_of_always m 0x1C (by decide)

theorem exec_resetTables (h : Hdr) (form : BitVec 8) (s : State) :
    exec (.resetTables h form) s = serve (.resetTables h form) (resetTablesRule form) s := rfl

theorem exec_resetFull (h : Hdr) (form : BitVec 8) (s : State) :
    exec (.resetFull h form) s = serve (.resetFull h form) (fun s => s.orderReset .full) s := rfl

/-- Posting reads the current settings, the time shown and the queue. -/
theorem State.post_notices_of_reads {s t : State} (k : NoticeKind) (u : Subject) (v : NoticeValue)
    (hset : s.settings.current = t.settings.current) (hsec : s.clock.seconds = t.clock.seconds) (hms : s.clock.ms = t.clock.ms)
    (hq : s.notices = t.notices) : (s.post k u v).notices = (t.post k u v).notices := by
  simp only [State.post, hset, hsec, hms, hq]
  split <;> simp [hq]

/-- What RESET TABLES and configuring-window expiry keep (R74, R94, R124, R163, R169). -/
theorem State.resetTables_blocks (s : State) :
    s.resetTables.notices = s.notices ∧ s.resetTables.link = { s.link with unsolicited := none, batch := none } ∧
    s.resetTables.settings.current = s.settings.current ∧ s.resetTables.settings.stored = s.settings.stored ∧
    s.resetTables.settings.writing = s.settings.writing ∧
    s.resetTables.settings.inForce.linkRate = s.settings.inForce.linkRate ∧
    s.resetTables.clock = { s.clock with hold := 0 } ∧
    s.resetTables.pacing =
      { s.pacing with
        window := s.settings.current.windowConfigured, stretched := false, overload := false, lapses := 0,
        lapseTotal := 0 } ∧
    s.resetTables.arbiter.seq = s.arbiter.seq ∧ s.resetTables.port.transfer = s.port.transfer ∧
    s.resetTables.port.lastGrant = s.port.lastGrant ∧
    s.resetTables.sup.challenge = nextChallenge s.sup.challenge (s.draws + 1) := by
  unfold State.resetTables
  simp only [State.enterConfiguring_sup_eq, State.enterConfiguring_frame]
  exact ⟨rfl, rfl, rfl, rfl, rfl, rfl, rfl, rfl, rfl, rfl, rfl, rfl⟩

/-- Settles O31: the two forms, and `resetTables_blocks`. -/
theorem tableResetsKeepLinkRateAndClock : Obligations.TableResetsKeepLinkRateAndClock := by
  refine ⟨fun h form s hready hlen => ?_, fun s c hrun hc => ?_⟩
  · intro tables full
    have hserved (t : State) (status : Status) (hrule : resetTablesRule form (s.taken tables) = plainReply status t) :
        exec tables s = .next (t.answer tables status .none) :=
      serve_plainReply tables _ s t status hready (modeServes_reset _) (by simp [tables, lengthOk, hlen]) hrule
    refine ⟨fun hform => hserved _ _ (if_neg (by simp [hform])), fun hform => hserved _ _ (if_pos ?_), ?_⟩
    · exact fun hcode => hform (BitVec.eq_of_toNat_eq hcode)
    · exact serve_plainReply full _ s _ .done hready (modeServes_reset _) (by simp [full, lengthOk, hlen]) rfl
  · obtain ⟨hnotices, hlink, hcurrent, hstored, hwriting, hrate, hclock, hpacing, hseq, htransfer, hgrant, hchallenge⟩ :=
      s.resetTables_blocks
    have hpolicy := s.resetTables_policy
    have hnew (hlo : 1 ≤ s.sup.challenge) (hhi : s.sup.challenge ≤ 254) :
        s.resetTables.sup.challenge ≠ s.sup.challenge ∧ 1 ≤ s.resetTables.sup.challenge ∧
          s.resetTables.sup.challenge ≤ 254 := by
      rw [hchallenge]
      exact ⟨nextChallenge_ne _ _ hlo hhi, nextChallenge_range _ _⟩
    rcases hc with rfl | ⟨rfl, htimer⟩
    · refine ⟨s.resetTablesActs, by rw [exec_resetTablesActs, State.live_running s _ hrun], hnotices.trans (if_pos rfl).symm,
        ?_, hcurrent, hstored, hwriting, hrate, hclock, hpacing, hseq, htransfer, hgrant, hpolicy, hnew⟩
      rw [if_pos rfl]
      unfold State.resetTablesActs
      simp only [State.withLink_link, hlink]
    · let t := s.resetTables.post .configTimeout .none (.quantity s.settings.inForce.configWindow)
      have hexpired : s.windowExpired = t := if_pos htimer
      have hposted : t.notices = (s.post .configTimeout .none (.quantity s.settings.inForce.configWindow)).notices :=
        State.post_notices_of_reads _ _ _ hcurrent (by rw [hclock]) (by rw [hclock]) hnotices
      have hframe := s.resetTables.post_eq .configTimeout .none (.quantity s.settings.inForce.configWindow)
      refine ⟨t, by rw [exec_configuringWindowExpiry, State.live_running s _ hrun, hexpired],
        hposted.trans (if_neg nofun).symm, ?_⟩
      rw [if_neg nofun]
      change t = _ at hframe
      rw [hframe]
      exact ⟨hlink, hcurrent, hstored, hwriting, hrate, hclock, hpacing, hseq, htransfer, hgrant, hpolicy, hnew⟩

/-! ### Starts (R158, R164) -/

/-- What a start leaves (R164). -/
theorem State.start_spec (s : State) (port : Port) :
    let c := s.settings.stored.getD .defaults
    let t := s.start port
    t.run = .running ∧ t.settings = ⟨c, .ofSettings c, s.settings.stored, none⟩ ∧
    t.notices = (if s.settings.stored.isNone then ⟨[⟨.settingsDefaulted, 1, 0, 0, .none, .quantity 0⟩], false, true⟩
      else ⟨[], false, false⟩) ∧
    t.pacing = .start c.windowConfigured ∧ t.arbiter = .start ∧ t.port = port ∧ t.link = .start s.osc := by
  intro c t
  have hentered : (s.loaded port).enterConfiguring.settings = ⟨c, .ofSettings c, s.settings.stored, none⟩ := rfl
  by_cases hstored : s.settings.stored.isNone
  · have ht : t = (s.loaded port).enterConfiguring.post .settingsDefaulted .none (.quantity 0) :=
      (s.start_eq port).trans (if_pos hstored)
    have hdefaults : c = .defaults := by simp [c, Option.isNone_iff_eq_none.mp hstored]
    rw [ht, if_pos hstored]
    refine ⟨by simp; rfl, by simpa using hentered, ?_, by simp; rfl, by simp; rfl, by simp; rfl, by simp; rfl⟩
    rw [State.post, hentered, hdefaults]
    rfl
  · have ht : t = (s.loaded port).enterConfiguring := (s.start_eq port).trans (if_neg hstored)
    rw [ht, if_neg hstored]
    exact ⟨rfl, hentered, rfl, rfl, rfl, rfl, rfl⟩

/-! ### Held parts and parts without supply (R96, R167; log 23) -/

theorem State.live_held {s : State} (h : s.run ≠ .running) (f : State → State) : s.live f = .next s :=
  congrArg Host.Outcome.next (if_neg h)

/-- A part that does not run ignores every row but those of the pins (log 23). -/
theorem exec_held {c : Instr} {s : State} (hrun : s.run ≠ .running) (hpin : pinRow c = none) : exec c s = .next s := by
  rcases row_family c with ⟨rule, hc⟩ | ⟨f, hc⟩ | ⟨f, hc⟩ | ⟨h, kind, rfl⟩
  · rw [exec_of_linkRule hc, State.live_held hrun]
  · rw [exec_of_ownRow hc, State.live_held hrun]
  · rw [hpin] at hc
    cases hc
  · rw [exec_unknownKind, State.live_held hrun]

theorem exec_resetLineAsserted (s : State) : exec .resetLineAsserted s = .next s.holdInReset := rfl

theorem exec_powerLoss (s : State) : exec .powerLoss s = .next s.losePower := rfl

/-- What a loss of supply or RESET_N held low ends (R96, R121, R167, R170). -/
theorem State.endActivity_ends (s : State) :
    s.endActivity.settings.stored = (if s.settings.writing.isSome then none else s.settings.stored) ∧
    s.endActivity.port.transfer = .idle ∧ s.endActivity.port.sdo = false ∧ s.endActivity.link.service = none ∧
    s.endActivity.link.tx = [] ∧ s.endActivity.walker.running = none ∧ s.endActivity.sup.period = none ∧
    s.endActivity.notices = s.notices :=
  ⟨rfl, rfl, rfl, rfl, rfl, rfl, rfl, by simp⟩

/-- The state that a release starts from (R158). -/
def State.sampled (s : State) (p q : Bool) : State :=
  ({ s.endActivity with osc := 0 } : State).withSup { s.endActivity.sup with policy := policyOf p q }

theorem State.release_eq (s : State) (p q : Bool) : s.release p q = (s.sampled p q).start .start := rfl

theorem State.sampled_reads (s : State) (p q : Bool) :
    (s.sampled p q).settings.stored = (if s.settings.writing.isSome then none else s.settings.stored) ∧
    (s.sampled p q).sup.policy = if p then (if q then .cueStanddown else .quietStanddown) else if q then .stretch else .carry :=
  ⟨rfl, by cases p <;> cases q <;> rfl⟩

/-- Settles O32: by `start_spec` for the three starts, `endActivity_ends` for the ends, and `exec_held` for a part that does
not run. -/
theorem startsLoadTheStoredSettings : Obligations.StartsLoadTheStoredSettings := by
  refine ⟨fun c s p q hc => ?_, fun c s hc => ?_, fun c s hrun hpower hline hassert hloss hpins => ?_,
    fun n level s hrun hn => ?_, fun s hrun hpending => ?_, fun s p q hrun => ?_⟩
  · obtain ⟨u, port, hexec, hstored, hpolicy, hport⟩ : ∃ (u : State) (port : Port), exec c s = .next (u.start port) ∧
        u.settings.stored =
          (if c ≠ .resetFullActs ∧ s.settings.writing.isSome = true then none else s.settings.stored) ∧
        u.sup.policy =
          (if c = .resetFullActs then s.sup.policy
          else if p then (if q then .cueStanddown else .quietStanddown)
          else if q then .stretch else .carry) ∧
        port.lastGrant = none ∧ port.starvation = none ∧ port.starved = false ∧
          port.transfer = (if c = .resetFullActs then s.port.transfer else .idle) := by
      obtain ⟨hstored, hpolicy⟩ := s.sampled_reads p q
      rcases hc with rfl | ⟨rfl, hpowered⟩ | ⟨rfl, hrun⟩
      · exact ⟨s.sampled p q, .start, exec_powerOn p q s, by simpa using hstored, by simpa using hpolicy, rfl, rfl, rfl,
          (if_neg nofun).symm⟩
      · exact ⟨s.sampled p q, .start, exec_resetLine_of_powered p q s hpowered, by simpa using hstored, by simpa using hpolicy,
          rfl, rfl, rfl, (if_neg nofun).symm⟩
      · exact ⟨s, _, (exec_resetFullActs s).trans (State.live_running s _ hrun), by simp, by simp, rfl, rfl, rfl,
          (if_pos rfl).symm⟩
    obtain ⟨hrun, hset, hnotices, hpacing, harbiter, hp, hlink⟩ := u.start_spec port
    obtain ⟨hgrant, hstarvation, hstarved, htransfer⟩ := hport
    refine ⟨u.start port, hexec, hrun, ?_, by rw [hset], (u.start_policy port).trans hpolicy, u.start_clock port, ?_, ?_, ?_, ?_,
      ?_, ?_, ?_⟩
    · rw [← hstored, hset, hnotices]
      cases u.settings.stored <;> simp
    · rw [hpacing, hset]
      rfl
    · rw [harbiter]
      rfl
    · rwa [hp]
    · rwa [hp]
    · rwa [hp]
    · rwa [hp]
    · rw [hlink]
      exact ⟨rfl, rfl, rfl, rfl, rfl, rfl, rfl⟩
  · obtain ⟨hstored, htransfer, hsdo, hservice, htx, hrunning, hperiod, hnotices⟩ := s.endActivity_ends
    rcases hc with ⟨rfl, hpowered⟩ | rfl
    · exact ⟨_, (exec_resetLineAsserted s).trans (congrArg _ (if_neg hpowered)), (if_neg nofun).symm, hstored, htransfer, hsdo,
        hservice, htx, hrunning, hperiod, hnotices⟩
    · exact ⟨_, exec_powerLoss s, (if_pos rfl).symm, hstored, htransfer, hsdo, hservice, htx, hrunning, hperiod, hnotices⟩
  · refine exec_held hrun ?_
    cases c
    case powerOn p q => exact absurd rfl (hpower p q)
    case resetLine p q => exact absurd rfl (hline p q)
    case resetLineAsserted => exact absurd rfl hassert
    case powerLoss => exact absurd rfl hloss
    case cuePinChange n level => exact absurd rfl (hpins n level)
    all_goals rfl
  · by_cases hpin : s.cues.pins.getLsbD n = level
    · refine ⟨s.cues.pins, fun k _ => ?_, ?_⟩
      · by_cases hk : k = n
        · subst hk
          rw [if_pos rfl, hpin]
        · rw [if_neg hk]
      · rw [exec_cuePinChange, State.pinChange, if_pos (.inl hpin)]
        rfl
    · refine ⟨setPin s.cues.pins n level, fun k hk => getLsbD_setPin _ _ _ hn k hk, ?_⟩
      rw [exec_cuePinChange, State.pinChange_of_changed hn hpin, if_pos hrun]
  · rw [step_of_idle hpending]
    exact congrArg _ (if_pos hrun)
  · exact ⟨(exec_resetLineAsserted s).trans (congrArg _ (if_pos hrun)), congrArg _ (if_pos hrun)⟩

end Sys2Proof.Machine
end

section
/-! PROOF. The Order Link: refusals, the cut of a batch, the receiver and its errors (R65, R68, R171 to R176). -/

namespace Sys2Proof.Machine

/-! ### Refusals and the cut (R65, R174, R176) -/

/-- The mode check is the table of R176 by KIND, or the mode of MAINTENANCE EXIT. -/
theorem servedIn_cases (m : Mode) (c : Instr) :
    servedIn m c = modeServes m (kindOf c).toNat ∨ servedIn m c = (m == .maintenance) := by
  unfold servedIn
  split
  · exact .inr rfl
  · exact .inl rfl

/-- HOLDOVER and STANDDOWN serve the kinds that every mode serves, and no other (R176). -/
theorem servedIn_of_standing {m : Mode} (hm : m = .holdover ∨ m = .standdown) {c : Instr}
    (hkind : (kindOf c).toNat ∉ alwaysServed) : servedIn m c = false := by
  have hnot : alwaysServed.contains (kindOf c).toNat = false := by simpa using hkind
  rcases servedIn_cases m c with hserved | hserved <;> rw [hserved]
  · unfold modeServes
    rw [hnot]
    rcases hm with rfl | rfl <;> rfl
  · rcases hm with rfl | rfl <;> rfl

theorem State.serveTaken_wrongMode {s : State} {c : Instr} {rule : State → Answer} (hm : servedIn s.sup.mode c = false) :
    s.serveTaken c rule = s.answer c .wrongMode .none := by
  unfold State.serveTaken
  rw [hm]
  rfl

theorem State.serveTaken_badLength {s : State} {c : Instr} {rule : State → Answer} (hm : servedIn s.sup.mode c = true)
    (hl : lengthOk c = false) : s.serveTaken c rule = s.answer c .badLength .none := by
  unfold State.serveTaken
  rw [hm, hl]
  rfl

/-- A command that is no BATCH DATA is served on the state in which it has been taken. -/
theorem exec_ready_of_linkRule {c : Instr} {rule : State → Answer} {s : State} (hready : s.ready)
    (hrule : linkRule c = some rule) (hdata : ∀ h items, c ≠ .batchData h items) :
    exec c s = .next ((s.taken c).serveTaken c rule) := by
  have haccept : s.accept c = s.taken c := by
    rw [← s.begin_ready c hready]
    unfold State.accept
    split
    next h items => exact absurd rfl (hdata h items)
    next => rfl
  rw [exec_of_linkRule hrule, State.live_running s _ hready.1, haccept]

/-- A command of the link has a rule, but for one whose KIND names none. -/
theorem linkRule_of_linkFrame {c : Instr} (h : (linkFrame c).isSome = true) (hkind : ∀ hd k, c ≠ .unknownKind hd k) :
    ∃ rule, linkRule c = some rule := by
  cases c
  case unknownKind hd k => exact absurd rfl (hkind hd k)
  all_goals simp [linkFrame, linkRule] at h ⊢

theorem exec_unknownKind_ready {h : Hdr} {kind : BitVec 8} {s : State} (hready : s.ready) :
    exec (.unknownKind h kind) s = .next ((s.taken (.unknownKind h kind)).reply 0xFF h.tag .unknownKind .none) := by
  rw [exec_unknownKind, State.live_running s _ hready.1, State.begin_ready s _ hready]

/-- BATCH DATA taken, the idle timer of an open batch restarted (R67, R69). -/
def State.dataTaken (s : State) (c : Instr) : State :=
  (s.taken c).withLink { (s.taken c).link with batch := s.link.batch.map fun b => { b with idle := 2000 } }

theorem exec_batchData_ready {h : Hdr} {items : List BatchEntry} {s : State} (hready : s.ready) :
    exec (.batchData h items) s =
      .next ((s.dataTaken (.batchData h items)).serveTaken (.batchData h items) (batchDataRule items)) := by
  rw [exec_of_linkRule rfl, State.live_running s _ hready.1]
  unfold State.accept
  rw [State.begin_ready s _ hready]
  unfold State.restartIdle State.dataTaken
  rw [show (s.taken (.batchData h items)).link.batch = s.link.batch by
    simp [Link.cutBatch, cutsBatch, kindOf, linkFrame]]

theorem State.dataTaken_sup (s : State) (c : Instr) : (s.dataTaken c).sup = s.sup := by simp [State.dataTaken]

/-- BATCH DATA, KIND 0x14, is served in SERVING and MAINTENANCE (R176). -/
theorem modeServes_batch {m : Mode} (hm : m = .serving ∨ m = .maintenance) :
    modeServes m 0x13 = true ∧ modeServes m 0x14 = true ∧ modeServes m 0x15 = true := by
  rcases hm with rfl | rfl <;> decide

/-- Settles O40: by the mode check and the length check of `serveTaken`. -/
theorem unservedCommandsAreRefused : Obligations.UnservedCommandsAreRefused := by
  refine ⟨fun c s hframe hunknown hdata hready => ?_, fun h kind s hready => exec_unknownKind_ready hready,
    fun h items s hready => ?_⟩
  · obtain ⟨rule, hrule⟩ := linkRule_of_linkFrame hframe hunknown
    have hexec := exec_ready_of_linkRule hready hrule hdata
    have hsup : (s.taken c).sup = s.sup := by simp
    have hwrong (hserved : servedIn s.sup.mode c = false) : exec c s = .next ((s.taken c).answer c .wrongMode .none) := by
      rw [hexec, State.serveTaken_wrongMode (hsup ▸ hserved)]
    refine ⟨hwrong, fun hmode hkind => hwrong (servedIn_of_standing hmode ?_), fun hserved hlength => ?_⟩
    · unfold alwaysServed
      simp only [List.mem_cons, List.not_mem_nil, or_false] at hkind ⊢
      omega
    · rw [hexec, State.serveTaken_badLength (hsup ▸ hserved) hlength]
  · intro c u
    have hexec : exec c s = .next (u.serveTaken c (batchDataRule items)) := exec_batchData_ready hready
    have hsup : u.sup = s.sup := s.dataTaken_sup c
    refine ⟨fun hserving hmaintenance => ?_, fun hmode hlength => ?_⟩
    · rw [hexec, State.serveTaken_wrongMode]
      rw [hsup]
      change modeServes s.sup.mode 0x14 = false
      cases hm : s.sup.mode
      case serving => exact absurd hm hserving
      case maintenance => exact absurd hm hmaintenance
      all_goals rfl
    · rw [hexec, State.serveTaken_badLength]
      · rw [hsup]
        exact (modeServes_batch hmode).2.1
      · refine Bool.eq_false_iff.mpr fun hok => hlength ?_
        simpa [c, lengthOk, and_assoc] using hok

theorem setRule_tx (id : BitVec 8) (value : BitVec 32) (s : State) :
    (setRule id value s).2.link.tx = s.link.tx ∧ (setRule id value s).2.link.batch = s.link.batch := by
  have htake (n v : Nat) : (s.takeSetting n v).link.tx = s.link.tx ∧ (s.takeSetting n v).link.batch = s.link.batch := by
    unfold State.takeSetting
    split
    · simp
    all_goals exact ⟨rfl, rfl⟩
  unfold setRule
  dsimp only
  (repeat' split) <;> simp [plainReply, htake]

/-- The rule of a command that cuts a batch hands nothing to the transmitter itself, and only BATCH OPEN opens a batch. -/
theorem linkRule_tx {c : Instr} {rule : State → Answer} (hrule : linkRule c = some rule)
    (hcut : (kindOf c).toNat ∉ [0x14, 0x15, 0x0E, 0x16, 0x1B, 0x1C]) (s : State) :
    (rule s).2.link.tx = s.link.tx ∧ ((∀ h op n, c ≠ .batchOpen h op n) → (rule s).2.link.batch = s.link.batch) := by
  cases c <;> cases hrule
  case set hd id value => exact ⟨(setRule_tx id value s).1, fun _ => (setRule_tx id value s).2⟩
  case saveSettings => exact ⟨rfl, fun _ => rfl⟩
  case maintenanceExit => exact ⟨rfl, fun _ => rfl⟩
  case batchOpen hd op n =>
    refine ⟨?_, fun hopen => absurd rfl (hopen hd op n)⟩
    unfold batchOpenRule
    split <;> rfl
  case keepalive => simp [kindOf, linkFrame] at hcut
  case batchData => simp [kindOf, linkFrame] at hcut
  case batchEnd => simp [kindOf, linkFrame] at hcut
  case status => simp [kindOf, linkFrame] at hcut
  case notices => simp [kindOf, linkFrame] at hcut
  case resetTables => simp [kindOf, linkFrame] at hcut
  case resetFull => simp [kindOf, linkFrame] at hcut
  all_goals simp

theorem cutsBatch_of_kind {kind : Byte} (h : kind.toNat ∉ [0x14, 0x15, 0x0E, 0x16, 0x1B, 0x1C]) : cutsBatch kind = true := by
  unfold cutsBatch
  simpa using h

/-- A command taken while a batch is open: the summary stands first on the transmitter, and the batch is closed. -/
theorem State.taken_cut {s : State} {c : Instr} {b : Batch} (hb : s.link.batch = some b) (hcut : cutsBatch (kindOf c) = true) :
    (s.taken c).link.tx = [⟨⟨0x95, b.tag, .done, .summary .cut b⟩, false⟩] ∧ (s.taken c).link.batch = none := by
  simp only [State.taken_link, Link.cutSummary, Link.cutBatch, hb, hcut, if_true, and_true]
  rfl

theorem State.reply_tx {s : State} {o : Outgoing} (h : s.link.tx = [o]) (kind tag : BitVec 8) (status : Status)
    (fields : ReplyFields) : (s.reply kind tag status fields).link.tx = o :: [⟨⟨kind, tag, status, fields⟩, true⟩] := by
  unfold State.reply
  rw [State.withLink_link, h]
  rfl

/-- Settles O41: the summary is there when the command is taken, and neither a refusal nor the rule removes it. -/
theorem commandsCutAnOpenBatch : Obligations.CommandsCutAnOpenBatch := by
  intro c s b hframe hready hb hkind
  obtain ⟨htx, hbatch⟩ := State.taken_cut hb (cutsBatch_of_kind hkind)
  by_cases hunknown : ∃ hd k, c = .unknownKind hd k
  · obtain ⟨hd, k, rfl⟩ := hunknown
    exact ⟨_, _, exec_unknownKind_ready hready, State.reply_tx htx _ _ _ _, fun _ => hbatch⟩
  · simp only [not_exists] at hunknown
    obtain ⟨rule, hrule⟩ := linkRule_of_linkFrame hframe hunknown
    have hdata (hd : Hdr) (items : List BatchEntry) : c ≠ .batchData hd items := by
      rintro rfl
      simp [kindOf, linkFrame] at hkind
    obtain ⟨hruletx, hrulebatch⟩ := linkRule_tx hrule hkind (s.taken c)
    rw [htx] at hruletx
    rw [hbatch] at hrulebatch
    have hexec := exec_ready_of_linkRule hready hrule hdata
    rcases (s.taken c).serveTaken_spec c rule with ⟨k, g, st, f, heq⟩ | ⟨-, -, ⟨k, g, st, f, heq⟩ | heq⟩ <;> rw [heq] at hexec
    · exact ⟨_, _, hexec, State.reply_tx htx k g st f, fun _ => hbatch⟩
    · exact ⟨_, _, hexec, State.reply_tx hruletx k g st f, hrulebatch⟩
    · exact ⟨_, _, hexec, hruletx, hrulebatch⟩

/-! ### The receiver (R171 to R173) -/

theorem exec_byte {c : Instr} {b : BitVec 8} (h : c = .byteReceived b ∨ c = .frameCompletes b ∨ c = .lenOutOfRange b)
    {s : State} (hrun : s.run = .running) : exec c s = .next (s.receiveByte b) := by
  rcases h with rfl | rfl | rfl
  all_goals rw [exec_of_ownRow rfl, State.live_running s _ hrun]

/-- A frame in assembly is whole when its CRC bytes have come (R171). -/
theorem frameWhole_iff (x len : Byte) (bytes : List Byte) :
    frameWhole (x :: len :: bytes) = true ↔ bytes.length = len.toNat + 2 := by
  simp [frameWhole, frameLen, byteAt]

theorem frameBody_whole {x len : Byte} {body tail : List Byte} (h : body.length = len.toNat) :
    frameBody (x :: len :: (body ++ tail)) = body := by
  simp [frameBody, frameLen, byteAt, ← h]

/-- The CRC of a whole frame (R171). -/
theorem frameGood_iff {x len hi lo : Byte} {body : List Byte} (h : body.length = len.toNat) :
    frameGood (x :: len :: (body ++ [hi, lo])) = true ↔ crc16 (len :: body) = hi ++ lo := by
  unfold frameGood
  rw [frameBody_whole h]
  simp [frameLen, byteAt, be16, ← h]

/-- The quiet timer restarts in HOLDOVER under QUIET_STANDDOWN (R159). -/
def State.quietRestarted (s : State) : Option Nat :=
  if s.sup.mode = .holdover ∧ s.sup.policy = .quietStanddown then some (s.settings.current.quietTime * 1000) else s.sup.quiet

theorem State.restartQuiet_eq (s : State) : s.restartQuiet = s.withSup { s.sup with quiet := s.quietRestarted } := by
  unfold State.restartQuiet State.quietRestarted
  split <;> rfl

theorem State.restartQuiet_withSup (s : State) :
    s.restartQuiet = s.withSup
      (if s.sup.mode = .holdover ∧ s.sup.policy = .quietStanddown then
        { s.sup with quiet := some (s.settings.current.quietTime * 1000) }
      else s.sup) := by
  unfold State.restartQuiet
  split <;> rfl

/-- The byte of a character stamps the receiver (R172). -/
def State.heard (s : State) : State := s.withLink { s.link with lastByte := s.osc }

theorem State.receiveByte_hunt {s : State} {armed : Bool} (h : s.link.framing = .hunt armed) (b : Byte) :
    s.receiveByte b =
      s.withLink { s.link with
        lastByte := s.osc, framing := if armed = true ∧ b = 0xA5 then .inFrame [b] else .hunt false } := by
  unfold State.receiveByte
  simp only [State.withLink_link, h]
  cases armed
  · simp
  · simp

theorem State.receiveByte_inFrame {s : State} {bytes : List Byte} (h : s.link.framing = .inFrame bytes) (b : Byte) :
    s.receiveByte b =
      if bytes.length = 1 ∧ (b.toNat < 2 ∨ 250 < b.toNat) then s.heard.frameError false
      else if frameWhole (bytes ++ [b]) then s.heard.completeFrame (bytes ++ [b])
      else s.withLink { s.link with lastByte := s.osc, framing := .inFrame (bytes ++ [b]) } := by
  unfold State.receiveByte
  dsimp only
  rw [show (s.withLink { s.link with lastByte := s.osc }).link.framing = .inFrame bytes from h]
  rfl

/-- The byte that completes a frame (R171 to R173). -/
theorem State.receiveByte_whole {s : State} {x len hi : Byte} {body : List Byte}
    (h : s.link.framing = .inFrame (x :: len :: (body ++ [hi]))) (hlen : body.length = len.toNat) (b : Byte) :
    s.receiveByte b =
      if crc16 (len :: body) = hi ++ b ∧ s.link.holding.length < 4 then
        (s.withLink { s.link with
          lastByte := s.osc, framing := .hunt true, holding := s.link.holding ++ [body],
          errors := s.link.errors - 1 }).restartQuiet
      else s.heard.frameError false := by
  have hbytes : x :: len :: (body ++ [hi]) ++ [b] = x :: len :: (body ++ [hi, b]) := by simp
  rw [State.receiveByte_inFrame h, if_neg (by simp), hbytes, if_pos (by rw [frameWhole_iff]; simp [hlen])]
  unfold State.completeFrame
  rw [frameBody_whole hlen]
  exact ite_of_iff (and_congr (frameGood_iff hlen) Iff.rfl) rfl rfl

/-- Settles O42: one case per framing state. -/
theorem receiverAssemblesFrames : Obligations.ReceiverAssemblesFrames := by
  intro c b s hc hrun nowIn
  rw [exec_byte hc hrun]
  refine ⟨fun hframing => ?_, fun hframing => ?_, fun x hframing hlo hhi => ?_, fun x len bytes hframing hshort => ?_,
    fun x len body hi hframing hlen hcrc hroom => ?_⟩
  · rw [State.receiveByte_hunt hframing b]
    by_cases hb : b = 0xA5
    · simp only [hb, and_self, if_true]
      rfl
    · simp only [hb, and_false, if_false]
      rfl
  · rw [State.receiveByte_hunt hframing b]
    simp only [Bool.false_eq_true, false_and, if_false]
    rfl
  · rw [State.receiveByte_inFrame hframing, if_neg (by omega), if_neg]
    · rfl
    · change ¬frameWhole (x :: b :: []) = true
      rw [frameWhole_iff]
      simp
  · rw [State.receiveByte_inFrame hframing, if_neg (by simp), if_neg]
    · rfl
    · change ¬frameWhole (x :: len :: (bytes ++ [b])) = true
      rw [frameWhole_iff]
      simp
      omega
  · rw [State.receiveByte_whole hframing hlen, if_pos ⟨hcrc, hroom⟩]
    exact congrArg Host.Outcome.next (State.restartQuiet_withSup _)

/-! ### Frame errors (R172, R173) -/

/-- A frame error with the error count it leaves (R159, R172). -/
def State.erred (s : State) (armed : Bool) (errors : Nat) : State :=
  (s.withLink { s.link with framing := .hunt armed, errors := errors }).withSup { s.sup with quiet := s.quietRestarted }

/-- The frame error that degrades the link, up to the entry to HOLDOVER (R173). -/
def State.degraded (s : State) (armed : Bool) : State :=
  (s.erred armed 0).post .linkDegraded .none (.quantity s.settings.current.linkThreshold)

theorem State.frameError_eq (s : State) (armed : Bool) :
    s.frameError armed =
      if s.link.errors < s.settings.current.linkThreshold then s.erred armed (s.link.errors + 1)
      else if s.sup.mode.supervised then (s.degraded armed).enterHoldover true else s.degraded armed := by
  have hmode : (s.degraded armed).sup.mode = s.sup.mode := by simp [State.degraded, State.erred]
  have hself : s.frameError armed =
      if s.link.errors < s.settings.current.linkThreshold then s.erred armed (s.link.errors + 1)
      else if (s.degraded armed).sup.mode.supervised then (s.degraded armed).enterHoldover true
      else s.degraded armed := by
    unfold State.frameError
    rw [State.restartQuiet_eq]
    rfl
  rw [hself, hmode]

/-- The frame errors of the four rows (R172, R173; logs 3 and 30). -/
theorem exec_of_frameError {c : Instr} {s : State} {armed : Bool} (hrun : s.run = .running)
    (herror : (c = .byteGapExpiry ∧ armed = true ∧ ∃ bytes, s.link.framing = .inFrame bytes) ∨
      (armed = false ∧ ∃ b, (c = .byteReceived b ∨ c = .frameCompletes b ∨ c = .lenOutOfRange b) ∧
        ((∃ x, s.link.framing = .inFrame [x] ∧ ¬(2 ≤ b.toNat ∧ b.toNat ≤ 250)) ∨
          ∃ x len body hi, s.link.framing = .inFrame (x :: len :: (body ++ [hi])) ∧ body.length = len.toNat ∧
            (crc16 (len :: body) ≠ hi ++ b ∨ 4 ≤ s.link.holding.length)))) :
    exec c s = .next
      ((s.withLink { s.link with lastByte := if armed then s.link.lastByte else s.osc }).frameError armed) := by
  rcases herror with ⟨rfl, rfl, bytes, hframing⟩ | ⟨rfl, b, hc, hbytes⟩
  · rw [exec_of_ownRow rfl, State.live_running s _ hrun]
    unfold State.gapPassed
    rw [hframing]
    rfl
  · rw [exec_byte hc hrun]
    rcases hbytes with ⟨x, hframing, hlen⟩ | ⟨x, len, body, hi, hframing, hlen, hbad⟩
    · rw [State.receiveByte_inFrame hframing, if_pos ⟨rfl, by omega⟩]
      rfl
    · rw [State.receiveByte_whole hframing hlen, if_neg]
      · rfl
      · rintro ⟨hcrc, hroom⟩
        exact hbad.elim (· hcrc) (by omega)

/-- Settles O43: every row's error is `frameError`, and `enterHoldover_spec` gives the entry. -/
theorem frameErrorsAreCounted : Obligations.FrameErrorsAreCounted := by
  refine ⟨fun c s armed hrun herror => ?_, fun s hrun => ?_⟩
  · intro threshold link quiet u degraded
    have hexec := exec_of_frameError hrun herror
    rw [State.frameError_eq] at hexec
    refine ⟨fun hbelow => hexec.trans (congrArg _ (if_pos hbelow)), fun hat => ?_⟩
    have hthreshold := hexec.trans (congrArg Host.Outcome.next (if_neg (Nat.not_lt.mpr hat)))
    refine ⟨fun hserving hmaintenance => ?_, fun hmode => ?_⟩
    · refine hthreshold.trans (congrArg Host.Outcome.next (if_neg ?_))
      simp [Mode.supervised, hserving, hmaintenance]
    · refine ⟨_, hthreshold.trans (congrArg Host.Outcome.next (if_pos ?_)), State.enterHoldover_spec _ true⟩
      simpa [Mode.supervised] using hmode
  · rw [exec_of_ownRow rfl, State.live_running s _ hrun]
    unfold State.armHunt
    cases s.link.framing <;> rfl

end Sys2Proof.Machine
end

section
/-! PROOF. Notices, the end of a reply, and batches (R59 to R71, R174, R175, R178 to R181). -/

namespace Sys2Proof.Machine

/-! ### A notice posted (R178, R179, R181) -/

theorem NoticeQueue.worst_le {q : NoticeQueue} {n : Nat} (h : ∀ x ∈ q.queue, x.level ≤ n) : q.worst ≤ n := by
  rcases Nat.eq_zero_or_pos q.worst with hzero | hpos
  · omega
  · obtain ⟨m, hm, hlevel⟩ := q.worst_mem hpos
    exact hlevel ▸ h m hm

theorem NoticeQueue.le_worst {q : NoticeQueue} {x : Notice} (hx : x ∈ q.queue) : x.level ≤ q.worst := by
  have key (l : List Notice) (a : Nat) : a ≤ l.foldl (fun m n => max m n.level) a ∧
      ∀ x ∈ l, x.level ≤ l.foldl (fun m n => max m n.level) a := by
    induction l generalizing a with
    | nil => simp
    | cons y l ih =>
      obtain ⟨hle, hmem⟩ := ih (max a y.level)
      refine ⟨by rw [List.foldl_cons]; omega, fun x hx => ?_⟩
      rw [List.foldl_cons]
      rcases List.mem_cons.mp hx with rfl | hx
      · omega
      · exact hmem x hx
  exact (key q.queue 0).2 x hx

/-- The newest notice of a level leaves the queue (R179). -/
theorem dropNewest_eq {older newer : List Notice} {x : Notice} (h : ∀ y ∈ newer, y.level < x.level) :
    dropNewest x.level (older ++ x :: newer) = older ++ newer := by
  have hnewer : ∀ y ∈ newer.reverse, ¬(y.level == x.level) = true := by
    intro y hy
    have := h y (by simpa using hy)
    simp
    omega
  unfold dropNewest
  rw [List.reverse_append, List.reverse_cons, List.append_assoc, List.eraseP_append_right _ hnewer, List.singleton_append,
    List.eraseP_cons_of_pos (by simp)]
  simp

/-- The four fates of a posted notice (R178, R179, R181). -/
theorem State.post_cases (s : State) (kind : NoticeKind) (subject : Subject) (value : NoticeValue) :
    let level := s.settings.current.levels.getD (kind.code - 1) 7
    let n : Notice := ⟨kind, level, s.clock.seconds, s.clock.ms, subject, value⟩
    let q := s.notices
    let attn := q.attn || decide (level ≤ s.settings.current.attnThreshold)
    s.post kind subject value =
      if 7 ≤ level then s
      else if q.queue.length < 64 then s.withNotices ⟨q.queue ++ [n], q.overflow, attn⟩
      else if level < q.worst then s.withNotices ⟨dropNewest q.worst q.queue ++ [n], true, attn⟩
      else s.withNotices { q with overflow := true } := by
  intro level n q attn
  unfold State.post NoticeQueue.take
  by_cases hlevel : 7 ≤ level
  · rw [if_pos hlevel, if_pos hlevel]
  · rw [if_neg hlevel, if_neg hlevel]
    by_cases hroom : q.queue.length < 64
    · rw [if_pos hroom, if_pos hroom]
    · rw [if_neg hroom, if_neg hroom]
      by_cases hworse : level < q.worst
      · rw [if_pos hworse, if_pos hworse]
      · rw [if_neg hworse, if_neg hworse]

/-! ### NOTICES and the end of a frame (R174, R175, R180, R181) -/

theorem exec_notices (h : Hdr) (s : State) : exec (.notices h) s = serve (.notices h) noticesRule s := rfl

theorem NoticeQueue.urgent_iff (q : NoticeQueue) (threshold : Nat) :
    ¬q.urgent threshold = true ↔ ∀ n ∈ q.queue, threshold < n.level := by
  simp [NoticeQueue.urgent]

theorem State.attnCheck_eq (s : State) :
    s.attnCheck = s.withNotices
      (if ∀ n ∈ s.notices.queue, s.settings.current.attnThreshold < n.level then { s.notices with attn := false }
      else s.notices) := by
  unfold State.attnCheck
  by_cases hurgent : s.notices.urgent s.settings.current.attnThreshold = true
  · rw [if_pos hurgent, if_neg (fun hnone => (NoticeQueue.urgent_iff _ _).mpr hnone hurgent)]
    rfl
  · rw [if_neg hurgent, if_pos ((NoticeQueue.urgent_iff _ _).mp hurgent)]

/-- A waiting summary starts on a free transmitter (R175). -/
theorem Link.pump_eq (l : Link) :
    l.pump =
      match l.unsolicited with
      | some r =>
        if l.service = none ∧ l.tx = [] then { l with service := none, tx := [⟨r, false⟩], unsolicited := none } else l
      | none => l := by
  unfold Link.pump
  cases l.unsolicited with
  | none => rfl
  | some r =>
    by_cases hidle : l.service = none ∧ l.tx = []
    · simp [hidle]
    · have hbusy : ¬(l.service.isNone && l.tx.isEmpty) = true := by simpa using hidle
      simp only [if_neg hidle, if_neg hbusy]

theorem Link.pump_of_none {l : Link} (h : l.unsolicited = none) : l.pump = l := by
  unfold Link.pump
  rw [h]

/-- The last byte of a frame goes out (R174, R175, R181). -/
theorem State.sendDone_eq {s : State} {o : Outgoing} {rest : List Outgoing} (h : s.link.tx = o :: rest) :
    s.sendDone =
      (s.withLink (Link.pump { s.link with tx := rest, service := if o.ends then none else s.link.service })).withNotices
        (if o.reply.kind = 0x9B ∧ ∀ n ∈ s.notices.queue, s.settings.current.attnThreshold < n.level then
          { s.notices with attn := false }
        else s.notices) := by
  unfold State.sendDone
  rw [h]
  dsimp only
  generalize Link.pump _ = l
  by_cases hkind : o.reply.kind = 0x9B
  · rw [if_pos hkind, State.attnCheck_eq]
    simp only [hkind, true_and]
    rfl
  · rw [if_neg hkind, if_neg (show ¬(o.reply.kind = 0x9B ∧ _) from fun hboth => hkind hboth.1)]
    rfl

/-- Settles O39: `post_cases` for a notice posted, `sendDone_eq` for a frame sent. -/
theorem noticesAreCollectedAndRepliesEndService : Obligations.NoticesAreCollectedAndRepliesEndService := by
  refine ⟨fun s kind subject value => ?_, fun h s hready hlen => ?_, fun s o rest hrun htx => ?_⟩
  · intro level n q attn t
    have hpost := s.post_cases kind subject value
    refine ⟨fun hlevel => hpost.trans (if_pos hlevel), fun hlevel hroom => ?_, fun hlevel hfull hworst => ?_,
      fun older newer x hlevel hfull hqueue hworse holder hnewer => ?_⟩
    · exact (hpost.trans (if_neg (Nat.not_le.mpr hlevel))).trans (if_pos hroom)
    · have hnot : ¬level < q.worst := Nat.not_lt.mpr (NoticeQueue.worst_le hworst)
      exact ((hpost.trans (if_neg (Nat.not_le.mpr hlevel))).trans (if_neg (Nat.not_lt.mpr hfull))).trans (if_neg hnot)
    · have hworst : q.worst = x.level := by
        refine Nat.le_antisymm (NoticeQueue.worst_le fun y hy => ?_) (NoticeQueue.le_worst (by simp [hqueue]))
        rw [hqueue, List.mem_append, List.mem_cons] at hy
        rcases hy with hy | rfl | hy
        · exact holder y hy
        · exact Nat.le_refl _
        · exact Nat.le_of_lt (hnewer y hy)
      refine (((hpost.trans (if_neg (Nat.not_le.mpr hlevel))).trans (if_neg (Nat.not_lt.mpr hfull))).trans
        (if_pos (hworst ▸ hworse))).trans ?_
      change s.withNotices ⟨dropNewest q.worst q.queue ++ [n], true, attn⟩ = _
      rw [hworst, hqueue, dropNewest_eq hnewer]
  · intro c
    refine serve_reply c _ s _ .done _ hready (modeServes_of_always _ 0x1B (by decide)) (by simp [c, lengthOk, hlen]) ?_
    simp [noticesRule]
  · intro service link
    have hpump : Link.pump { s.link with tx := rest, service := if o.ends then none else s.link.service } = link :=
      Link.pump_eq _
    rw [exec_of_ownRow rfl, State.live_running s _ hrun, State.sendDone_eq htx, hpump]

/-! ### BATCH OPEN, DATA, END and the idle timeout (R60, R61, R64, R67 to R70) -/

theorem toNat_beq_byte (b : BitVec 8) (n : Nat) (hn : n < 256) : (b.toNat == n) = (b == BitVec.ofNat 8 n) := by
  rw [Bool.eq_iff_iff, beq_iff_eq, beq_iff_eq, toNat_eq_iff_byte b n hn]

theorem batchOpenRule_eq (tag op : BitVec 8) (count : BitVec 16) (s : State) :
    batchOpenRule tag op count s =
      if (op = 1 ∨ op = 2) ∧ count ≠ 0 then
        (some (.done, .batchOpened (op == 2) count.toNat),
          s.withLink { s.link with batch := some (.opened (op == 2) count.toNat tag) })
      else plainReply .badField s := by
  have hcount : count.toNat = 0 ↔ count = 0 := by
    rw [← BitVec.toNat_inj]
    rfl
  have hrefused : ((op.toNat != 1 && op.toNat != 2) || count.toNat == 0) = true ↔ ¬((op = 1 ∨ op = 2) ∧ count ≠ 0) := by
    have hone := toNat_eq_iff_byte op 1 (by decide)
    have htwo := toNat_eq_iff_byte op 2 (by decide)
    simp only [Bool.or_eq_true, Bool.and_eq_true, bne_iff_ne, beq_iff_eq, ne_eq, hone, htwo, hcount]
    exact (Classical.not_and_iff_not_or_not.trans (or_congr not_or Classical.not_not)).symm
  unfold batchOpenRule
  by_cases hfields : (op = 1 ∨ op = 2) ∧ count ≠ 0
  · rw [if_pos hfields, if_neg (mt hrefused.mp (not_not_intro hfields)), toNat_beq_byte op 2 (by decide)]
    rfl
  · rw [if_neg hfields, if_pos (hrefused.mpr hfields)]

theorem exec_batchOpen (h : Hdr) (op : BitVec 8) (count : BitVec 16) (s : State) :
    exec (.batchOpen h op count) s = serve (.batchOpen h op count) (batchOpenRule h.tag op count) s := rfl

theorem exec_batchEnd (h : Hdr) (s : State) : exec (.batchEnd h) s = serve (.batchEnd h) batchEndRule s := rfl

/-- Settles O36: the four rows on a ready part. -/
theorem batchesOpenTakeFramesAndClose : Obligations.BatchesOpenTakeFramesAndClose := by
  refine ⟨fun h op count s hready hmode hlen => ?_, fun h items s hready hmode hlo hhi hlen => ?_,
    fun h s hready hmode hlen => ?_, fun s b hready hb => ?_⟩
  · intro c u
    have hserved := serve_served c (batchOpenRule h.tag op count) s hready (modeServes_batch hmode).1
      (by simp [c, lengthOk, hlen])
    rw [batchOpenRule_eq] at hserved
    rw [exec_batchOpen, hserved]
    by_cases hfields : (op = 1 ∨ op = 2) ∧ count ≠ 0
    · rw [if_pos hfields, if_pos hfields]
      rfl
    · rw [if_neg hfields, if_neg hfields]
      rfl
  · intro c u
    have hlength : lengthOk c = true := by
      simp only [c, lengthOk, Bool.and_eq_true, decide_eq_true_eq, beq_iff_eq]
      omega
    have hserved : servedIn (s.dataTaken c).sup.mode c = true := by
      rw [State.dataTaken_sup]
      exact (modeServes_batch hmode).2.1
    rw [exec_batchData_ready hready, State.serveTaken_served _ _ _ hserved hlength]
    have hbatch : u.link.batch = s.link.batch := by simp [u, c, Link.cutBatch, cutsBatch, kindOf, linkFrame]
    have htaken : s.dataTaken c = u.withLink { u.link with batch := s.link.batch.map fun b => { b with idle := 2000 } } := rfl
    cases hb : s.link.batch with
    | none =>
      have hsame : s.dataTaken c = u := by
        rw [htaken, hb, Option.map_none, ← hb, ← hbatch]
        exact u.withLink_same
      unfold batchDataRule
      rw [hsame, if_pos (by rw [hbatch, hb]; rfl)]
      rfl
    | some b =>
      have hservice : u.link.service = some ⟨0x14, h.tag, .replying⟩ := by simp [u, c, kindOf, hdrOf, linkFrame]
      unfold batchDataRule
      rw [htaken, hb, if_neg (by simp)]
      simp only [State.withLink_link, hservice]
      rfl
  · intro c u
    have hserved := serve_served c batchEndRule s hready (modeServes_batch hmode).2.2 (by simp [c, lengthOk, hlen])
    have hbatch : u.link.batch = s.link.batch := by simp [u, c, Link.cutBatch, cutsBatch, kindOf, linkFrame]
    have hrule : batchEndRule u =
        match s.link.batch with
        | some b => (some (.done, .summary .endedEarly b), u.withLink { u.link with batch := none })
        | none => plainReply .wrongState u := by
      unfold batchEndRule
      rw [hbatch] <;> rfl
    rw [exec_batchEnd, hserved, hrule]
    cases s.link.batch <;> rfl
  · obtain ⟨hrun, hservice, htx, hunsolicited, -⟩ := s.ready_link hready
    rw [exec_of_ownRow rfl, State.live_running s _ hrun, Link.closeUnsolicited_eq, hb]
    dsimp only
    rw [if_pos ⟨by rw [hservice]; rfl, htx⟩, ← hservice, ← hunsolicited]

/-! ### One item (R62, R63, R70) -/

/-- The outcomes of the two tests (R51 to R57). -/
def itemStatuses : List Status :=
  [.done, .duplicate, .badField, .noProduct, .notOnSale, .closed, .blackedOut, .storeFull, .notHeld]

theorem State.purchaseTest_status (s : State) (addr : BitVec 32) (product : BitVec 8) :
    (s.purchaseTest addr product).1.status ∈ itemStatuses := by
  have hbit (k : Key) (slot region : Nat) (partly : Bool) : (s.purchaseBit k slot region partly).1.status ∈ itemStatuses := by
    unfold State.purchaseBit
    split <;> simp [itemStatuses]
  unfold State.purchaseTest
  split
  · simp [itemStatuses, PurchaseOutcome.plain]
  · split
    · simp [itemStatuses, PurchaseOutcome.plain]
    · dsimp only
      split
      · split <;> simp [itemStatuses, PurchaseOutcome.plain]
      · split
        · simp [itemStatuses]
        · exact hbit ..

theorem State.cancelTest_status (s : State) (addr : BitVec 32) (product : BitVec 8) :
    (s.cancelTest addr product).1.1 ∈ itemStatuses := by
  unfold State.cancelTest
  (repeat' split) <;> simp [itemStatuses]

/-- The count of an item under its outcome (R62). -/
theorem Batch.tally_eq (b : Batch) {status : Status} (partly : Bool) :
    b.tally status partly =
      { b with
        taken := b.taken + 1, accepted := b.accepted + (if status = .done then 1 else 0),
        partly := b.partly + (if status = .done ∧ partly = true then 1 else 0),
        duplicates := b.duplicates + (if status = .duplicate then 1 else 0), refused := b.refused.bump status,
        listed :=
          if status = .done ∨ status = .duplicate ∨ 8 ≤ b.listed.length then b.listed
          else b.listed ++ [(b.taken + 1, status)] } := by
  by_cases hdone : status = .done
  · subst hdone
    cases partly <;> rfl
  · by_cases hduplicate : status = .duplicate
    · subst hduplicate
      rfl
    · have hlisted : (if b.listed.length < 8 then b.listed ++ [(b.taken + 1, status)] else b.listed) =
          if status = .done ∨ status = .duplicate ∨ 8 ≤ b.listed.length then b.listed
          else b.listed ++ [(b.taken + 1, status)] := by
        by_cases hfull : 8 ≤ b.listed.length
        · rw [if_neg (by omega), if_pos (.inr (.inr hfull))]
        · rw [if_pos (by omega), if_neg (by simp [hdone, hduplicate, hfull])]
      simp only [hdone, hduplicate, if_false, false_and, Nat.add_zero]
      unfold Batch.tally
      simp only [hdone, hduplicate, false_or] at hlisted
      cases status <;> simp_all

theorem RefusedCounts.bump_total (x : RefusedCounts) {status : Status} (h : status ∈ itemStatuses) :
    (x.bump status).total = x.total + if status = .done ∨ status = .duplicate then 0 else 1 := by
  unfold itemStatuses at h
  simp only [List.mem_cons, List.not_mem_nil, or_false] at h
  unfold RefusedCounts.total
  rcases h with rfl | rfl | rfl | rfl | rfl | rfl | rfl | rfl | rfl <;> simp [RefusedCounts.bump] <;> omega

/-- The item at the head of the frame in service (R61 to R63). -/
theorem State.takeItem_eq {s : State} {kind tag : BitVec 8} {x : BatchEntry} {rest : List BatchEntry} {b : Batch}
    (hservice : s.link.service = some ⟨kind, tag, .items (x :: rest)⟩) (hbatch : s.link.batch = some b)
    (hunsolicited : s.link.unsolicited = none) :
    let r := s.itemTest b.cancels x
    let b' := b.tally r.1.1 r.1.2
    let last := { b' with surplus := min 65535 (b'.surplus + rest.length) }
    s.takeItem = r.2.withLink
      (if b'.count ≤ b'.taken then
        { s.link with
          batch := none, service := some ⟨kind, tag, .replying⟩,
          tx := s.link.tx ++ [⟨⟨0x95, b'.tag, .done, .summary .terminal last⟩, true⟩] }
      else
        { s.link with
          batch := some b', service := if rest = [] then none else some ⟨kind, tag, .items rest⟩ }) := by
  intro r b' last
  have hlink : r.2.link = s.link := by simp [r]
  have htake : s.takeItem =
      if b'.count ≤ b'.taken then
        r.2.withLink { r.2.link with
          batch := none, service := some ⟨kind, tag, .replying⟩,
          tx := r.2.link.tx ++ [⟨summaryReply .terminal last.tag last, true⟩] }
      else
        r.2.withLink (Link.pump { r.2.link with
          batch := some b', service := if rest.isEmpty then none else some ⟨kind, tag, .items rest⟩ }) := by
    unfold State.takeItem
    rw [hservice]
    dsimp only
    rw [hbatch]
  have hpump (v : Option Service) : Link.pump { s.link with batch := some b', service := v } =
      { s.link with batch := some b', service := v } := Link.pump_of_none hunsolicited
  rw [htake, hlink]
  by_cases hlast : b'.count ≤ b'.taken
  · rw [if_pos hlast, if_pos hlast]
    rfl
  · rw [if_neg hlast, if_neg hlast, hpump]
    simp only [List.isEmpty_iff]

/-- Settles O37: `takeItem_eq` with the counts of `tally_eq`. -/
theorem batchItemsAreTestedAndCounted : Obligations.BatchItemsAreTestedAndCounted := by
  intro s kind tag x rest b hrun hservice hbatch hunsolicited purchase cancel status partly
  let b' := b.tally status partly
  have hitem : s.itemTest b.cancels x = ((status, partly), if b.cancels then cancel.2 else purchase.2) := by
    unfold State.itemTest
    cases hcancels : b.cancels <;> simp [status, partly, hcancels, purchase, cancel]
  have hstatus : status ∈ itemStatuses := by
    simp only [status]
    split
    · exact s.cancelTest_status _ _
    · exact s.purchaseTest_status _ _
  have htake := State.takeItem_eq hservice hbatch hunsolicited
  rw [hitem] at htake
  have htally := b.tally_eq (status := status) partly
  change b' = _ at htally
  have hlast : b'.count ≤ b'.taken ↔ b.count ≤ b.taken + 1 := by rw [htally]
  obtain ⟨htaken, hcancels, hcount, htag, hidle, haccepted, hpartly, hduplicates, hrefused, hlisted, hsurplus⟩ :
      b'.taken = b.taken + 1 ∧ b'.cancels = b.cancels ∧ b'.count = b.count ∧ b'.tag = b.tag ∧ b'.idle = b.idle ∧
      b'.accepted = b.accepted + (if status = .done then 1 else 0) ∧
      b'.partly = b.partly + (if status = .done ∧ partly = true then 1 else 0) ∧
      b'.duplicates = b.duplicates + (if status = .duplicate then 1 else 0) ∧ b'.refused = b.refused.bump status ∧
      b'.listed =
        (if status = .done ∨ status = .duplicate ∨ 8 ≤ b.listed.length then b.listed
        else b.listed ++ [(b.taken + 1, status)]) ∧ b'.surplus = b.surplus := by
    rw [htally]
    exact ⟨rfl, rfl, rfl, rfl, rfl, rfl, rfl, rfl, rfl, rfl, rfl⟩
  have htotal : b'.refused.total = b.refused.total + if status = .done ∨ status = .duplicate then 0 else 1 :=
    hrefused ▸ RefusedCounts.bump_total _ hstatus
  have hexec : exec .batchItem s = .next s.takeItem := by
    rw [exec_of_ownRow rfl, State.live_running s _ hrun]
  by_cases hterminal : b.count ≤ b.taken + 1
  · refine ⟨s.takeItem, { b' with surplus := min 65535 (b'.surplus + rest.length) }, hexec, by rw [htake]; rfl, htaken,
      hcancels, hcount, htag, hidle, haccepted, hpartly, hduplicates, htotal, hrefused, hlisted, ?_⟩
    rw [if_pos hterminal, htake, ← htag, ← hsurplus]
    exact ⟨rfl, if_pos (hlast.mpr hterminal)⟩
  · refine ⟨s.takeItem, b', hexec, by rw [htake]; rfl, htaken, hcancels, hcount, htag, hidle, haccepted, hpartly, hduplicates,
      htotal, hrefused, hlisted, ?_⟩
    rw [if_neg hterminal, htake]
    exact ⟨hsurplus, if_neg (mt hlast.mp hterminal)⟩

end Sys2Proof.Machine
end

section
/-! PROOF. PURCHASE and CANCEL in their successes (R33, R35 to R38, R54, R55, R57). -/

namespace Sys2Proof.Machine

/-! ### The lists after a record has moved (R32) -/

/-- A moved record leaves the list of its old place and joins the tail of its new one. -/
theorem GrantStore.move_lists (g : GrantStore) (old : Place) (r : GrantRecord) :
    (g.move old r).prompt = (if old.listName = .prompt then g.prompt.erase r.key else g.prompt) ++
      (if r.place.listName = .prompt then [r.key] else []) ∧
    (g.move old r).ring = (if old.listName = .ring then g.ring.erase r.key else g.ring) ++
      (if r.place.listName = .ring then [r.key] else []) ∧
    (g.move old r).revoking = (if old.listName = .revoking then g.revoking.erase r.key else g.revoking) ++
      (if r.place.listName = .revoking then [r.key] else []) ∧
    (g.move old r).highArmed = g.highArmed ∧ (g.move old r).records.length = g.records.length := by
  unfold GrantStore.move GrantStore.enlist GrantStore.unlist GrantStore.update
  cases old <;> cases r.place <;> simp [Place.listName]

/-! ### The bit-set request (R33, R35, R36) -/

/-- The record found with its slot bit clear. -/
theorem State.bitSet_of_clear {s : State} {k : Key} {slot : Nat} {r : GrantRecord} (hr : s.store.find k = some r)
    (hclear : r.map.getLsbD slot = false) :
    s.bitSet k slot = (.set, s.withStore
      (if r.place.listName = .ring then
        s.store.move r.place { r with map := r.map ||| BitVec.twoPow 64 slot, place := .prompt }
      else s.store.update { r with map := r.map ||| BitVec.twoPow 64 slot })) := by
  unfold State.bitSet
  rw [hr]
  dsimp only
  rw [hclear]
  obtain ⟨key, map, place, stamp, emissions⟩ := r
  cases place <;> rfl

/-- The store and the counts of a creation (R33, R35). -/
theorem State.createRecord_eq (s : State) (k : Key) (slot : Nat) :
    let high := s.store.records.length + 1 = 59000 ∧ s.store.highArmed = true
    let g := s.store.create ⟨k, BitVec.twoPow 64 slot, .prompt, none, 0⟩
    s.createRecord k slot =
      ((s.withStore { g with highArmed := s.store.highArmed && !decide high }).withProducts
        (s.products.modify k.product fun x => { x with records := x.records + 1 })).withNotices
        (if high then (s.post .storeHigh .none (.quantity 59000)).notices else s.notices) := by
  intro high g
  have hlength : g.records.length = s.store.records.length + 1 := length_insertRecord _ _
  have hhigh : (g.records.length == 59000 && g.highArmed) = decide high := by
    rw [hlength, Bool.eq_iff_iff, Bool.and_eq_true, beq_iff_eq, decide_eq_true_eq]
    rfl
  have hcreate : s.createRecord k slot =
      (let t := (s.withStore (if (g.records.length == 59000 && g.highArmed) = true then { g with highArmed := false } else g)
          ).withProducts (s.products.modify k.product fun x => { x with records := x.records + 1 })
       if (g.records.length == 59000 && g.highArmed) = true then t.post .storeHigh .none (.quantity g.records.length)
       else t) := rfl
  rw [hcreate, hhigh, hlength]
  by_cases h : high
  · simp only [h, decide_true, if_true, Bool.not_true, Bool.and_false]
    rw [State.post_eq, h.1]
    congr 1
    exact State.post_notices_congr _ _ _ _ _ rfl rfl rfl
  · simp only [h, decide_false, Bool.false_eq_true, if_false, Bool.not_false, Bool.and_true]
    rfl

/-! ### PURCHASE (R54, R55) -/

/-- A purchase that no check refuses comes to the bit-set request (R54, R55). -/
theorem State.purchaseTest_of_open {s : State} {addr : BitVec 32} {product : BitVec 8} {d : ProductDef}
    (hfields : addr.toNat < 2 ^ 26 ∧ product.toNat < 48) (hproduct : s.product? product.toNat = some d)
    (hopen : ∃ e ∈ s.sellableOf d.events, e.blackout.getLsbD (s.regionOf (addr.toNat / 64)) = false) :
    s.purchaseTest addr product =
      s.purchaseBit ⟨addr.toNat / 64, product.toNat⟩ (addr.toNat % 64) (s.regionOf (addr.toNat / 64))
        ((s.sellableOf d.events).any fun e => e.blackout.getLsbD (s.regionOf (addr.toNat / 64))) := by
  obtain ⟨e, he, hlit⟩ := hopen
  have hsome : ¬(s.sellableOf d.events).isEmpty = true := by
    rw [List.isEmpty_iff]
    exact List.ne_nil_of_mem he
  have hnotall : ¬(s.sellableOf d.events).countP (fun e => e.blackout.getLsbD (s.regionOf (addr.toNat / 64))) =
      (s.sellableOf d.events).length := by
    rw [List.countP_eq_length]
    intro hall
    rw [hall e he] at hlit
    cases hlit
  have hany : decide (0 < (s.sellableOf d.events).countP fun e => e.blackout.getLsbD (s.regionOf (addr.toNat / 64))) =
      (s.sellableOf d.events).any fun e => e.blackout.getLsbD (s.regionOf (addr.toNat / 64)) := by
    rw [Bool.eq_iff_iff, decide_eq_true_eq, List.countP_pos_iff, List.any_eq_true]
  unfold State.purchaseTest
  rw [(addressOk_iff addr product).mpr hfields, hproduct]
  dsimp only
  rw [if_neg (by simp), if_neg hsome, blockOf_eq_div addr hfields.1, slotOf_eq_mod, if_neg hnotall, hany]

/-- Settles O33: the bit-set request by the record found, or created. -/
theorem purchaseSetsTheSlotBit : Obligations.PurchaseSetsTheSlotBit := by
  intro h addr product s d hready hmode hlen haddr hindex hproduct c u k slot region sellable hopen partly
  have hstore : u.store = s.store := by simp [u]
  have htest (o : PurchaseOutcome) (t : State) (hbit : u.purchaseBit k slot region partly = (o, t)) :
      exec c s = .next (t.answer c o.status (.purchase o.partly o.region o.list)) := by
    refine exec_purchase_ready h addr product s t o hready hmode hlen ?_
    have hregion : u.regionOf (addr.toNat / 64) = region := s.taken_regionOf c _
    have hsellable : u.sellableOf d.events = sellable := by
      unfold State.sellableOf
      rw [show u.event? = s.event? by simp [u], show u.clock = s.clock by simp [u]]
    have htest := State.purchaseTest_of_open (s := u) ⟨haddr, hindex⟩ (by simpa [u] using hproduct)
      (by rw [hregion, hsellable]; exact hopen)
    rw [hregion, hsellable] at htest
    exact htest.trans hbit
  cases hr : s.store.find k with
  | some r =>
    have hru : u.store.find k = some r := hstore ▸ hr
    obtain ⟨hkey, -⟩ := s.store.find_some k r hr
    dsimp only
    by_cases hset : r.map.getLsbD slot = true
    · rw [if_pos hset]
      refine htest ⟨.duplicate, partly, some region, some r.place.listName⟩ u ?_
      have hbit : u.bitSet k slot = (.alreadySet, u) := by
        unfold State.bitSet
        rw [hru]
        exact if_pos hset
      unfold State.purchaseBit
      rw [hbit]
      simp [GrantStore.listOf, hru]
    · rw [if_neg hset]
      have hbit := State.bitSet_of_clear hru (Bool.eq_false_iff.mpr hset)
      rw [hstore] at hbit
      have hserved (g : GrantStore) (r' : GrantRecord) (hself : g.find k = some r') (hg : u.bitSet k slot = (.set, u.withStore g)) :
          exec c s = .next ((u.withStore g).answer c .done (.purchase partly (some region) (some r'.place.listName))) := by
        refine htest ⟨.done, partly, some region, some r'.place.listName⟩ _ ?_
        unfold State.purchaseBit
        rw [hg]
        simp only [GrantStore.listOf, State.withStore_store, hself, Option.map_some]
      by_cases hring : r.place.listName = .ring
      · simp only [if_pos hring] at hbit ⊢
        let r' : GrantRecord := { r with map := r.map ||| BitVec.twoPow 64 slot, place := .prompt }
        have hfind (k' : Key) : (s.store.move r.place r').find k' = if k' = k then some r' else s.store.find k' := by
          rw [GrantStore.find_move _ _ r' r (by rwa [← hkey] at hr)]
          exact ite_of_iff (by rw [← hkey]) rfl rfl
        have hself := (hfind k).trans (if_pos rfl)
        obtain ⟨hprompt, hringlist, hrevoking, -⟩ := s.store.move_lists r.place r'
        refine ⟨u.withStore (s.store.move r.place r'), hserved _ r' hself hbit, hself,
          fun k' hk' => (hfind k').trans (if_neg hk'), ?_, ?_, ?_, rfl⟩
        · rw [State.withStore_store, hprompt, if_neg (by simp [hring]), if_pos (show r'.place.listName = .prompt from rfl)]
          exact congrArg (s.store.prompt ++ [·]) hkey
        · rw [State.withStore_store, hringlist, if_pos hring, if_neg (show ¬r'.place.listName = .ring from nofun), List.append_nil]
          exact congrArg s.store.ring.erase hkey
        · rw [State.withStore_store, hrevoking, if_neg (by simp [hring]), if_neg (show ¬r'.place.listName = .revoking from nofun), List.append_nil]
      · simp only [if_neg hring] at hbit ⊢
        let r' : GrantRecord := { r with map := r.map ||| BitVec.twoPow 64 slot }
        have hfind (k' : Key) : (s.store.update r').find k' = if k' = k then some r' else s.store.find k' := by
          rw [GrantStore.find_update _ r' r (by rwa [← hkey] at hr)]
          exact ite_of_iff (by rw [← hkey]) rfl rfl
        have hself := (hfind k).trans (if_pos rfl)
        exact ⟨u.withStore (s.store.update r'), hserved _ r' hself hbit, hself,
          fun k' hk' => (hfind k').trans (if_neg hk'), rfl, rfl, rfl, rfl⟩
  | none =>
    have hnone : u.store.find k = none := hstore ▸ hr
    dsimp only
    by_cases hroom : s.store.records.length < 65536
    · rw [if_pos hroom]
      have hbit : u.bitSet k slot = (.set, u.createRecord k slot) := by
        unfold State.bitSet
        rw [hnone]
        exact if_pos (by rwa [hstore])
      have hcreated := u.createRecord_eq k slot
      rw [hstore] at hcreated
      dsimp only at hcreated
      have hfind (k' : Key) := GrantStore.find_create s.store ⟨k, BitVec.twoPow 64 slot, .prompt, none, 0⟩ hr k'
      have hself : (u.createRecord k slot).store.find k = some ⟨k, BitVec.twoPow 64 slot, .prompt, none, 0⟩ := by
        rw [hcreated]
        exact (hfind k).trans (if_pos rfl)
      have hposted : (u.post .storeHigh .none (.quantity 59000)).notices = (s.post .storeHigh .none (.quantity 59000)).notices :=
        State.post_notices_congr u s _ _ _ (by simp [u]) (by simp [u]) (by simp [u])
      refine ⟨u.createRecord k slot, ?_, hself, ?_⟩
      · refine htest ⟨.done, partly, some region, some .prompt⟩ _ ?_
        unfold State.purchaseBit
        rw [hbit]
        simp only [GrantStore.listOf, hself, Option.map_some]
        rfl
      · rw [hcreated, hposted, show u.products = s.products by simp [u], show u.notices = s.notices by simp [u]]
        exact ⟨fun k' hk' => (hfind k').trans (if_neg hk'), length_insertRecord _ _, rfl, rfl, rfl, rfl, rfl, rfl, rfl⟩
    · rw [if_neg hroom]
      refine htest ⟨.storeFull, false, some region, none⟩ u ?_
      have hbit : u.bitSet k slot = (.full, u) := by
        unfold State.bitSet
        rw [hnone]
        exact if_neg (by rwa [hstore])
      unfold State.purchaseBit
      rw [hbit]

/-! ### CANCEL (R37, R38, R57) -/

theorem exec_cancel (h : Hdr) (addr : BitVec 32) (product : BitVec 8) (s : State) :
    exec (.cancel h addr product) s = serve (.cancel h addr product) (cancelRule addr product) s := rfl

theorem modeServes_cancel {m : Mode} (hm : m = .serving ∨ m = .maintenance) : modeServes m 0x12 = true := by
  rcases hm with rfl | rfl <;> decide

/-- The cancellation test by its checks (R57). -/
theorem State.cancelTest_eq (s : State) (addr : BitVec 32) (product : BitVec 8) :
    s.cancelTest addr product =
      if ¬(addr.toNat < 2 ^ 26 ∧ product.toNat < 48) then ((.badField, none), s)
      else if s.product? product.toNat = none then ((.noProduct, none), s)
      else
        match s.bitClear ⟨addr.toNat / 64, product.toNat⟩ (addr.toNat % 64) with
        | (some x, t) => ((.done, some x), t)
        | (none, t) => ((.notHeld, none), t) := by
  unfold State.cancelTest
  by_cases hfields : addr.toNat < 2 ^ 26 ∧ product.toNat < 48
  · rw [(addressOk_iff addr product).mpr hfields, if_neg (not_not_intro hfields), slotOf_eq_mod, blockOf_eq_div addr hfields.1,
      if_neg (by simp)]
    by_cases hproduct : s.product? product.toNat = none
    · rw [if_pos hproduct, if_pos (by simp [hproduct])]
    · rw [if_neg hproduct, if_neg (by simpa using hproduct)] <;> rfl
  · rw [if_pos hfields, if_pos (by simpa using mt (addressOk_iff addr product).mp hfields)]

/-- A held bit cleared: the record goes to the revocation tail, or stays in its place there (R37, R38). -/
theorem State.bitClear_of_held {s : State} {k : Key} {slot : Nat} {r : GrantRecord} (hr : s.store.find k = some r)
    (hheld : r.map.getLsbD slot = true) :
    let r' := { r with
      map := r.map &&& ~~~BitVec.twoPow 64 slot, place := .revoking s.settings.current.revocationCopies }
    s.bitClear k slot = (some (s.settings.current.revocationCopies, r'.map == 0), s.withStore
      (if r.place.listName = .revoking then s.store.update r' else s.store.move r.place r')) := by
  unfold State.bitClear
  rw [hr]
  dsimp only
  rw [hheld]
  obtain ⟨key, map, place, stamp, emissions⟩ := r
  cases place <;> rfl

theorem State.bitClear_of_not_held {s : State} {k : Key} {slot : Nat}
    (h : ∀ r, s.store.find k = some r → r.map.getLsbD slot = false) : s.bitClear k slot = (none, s) := by
  unfold State.bitClear
  cases hr : s.store.find k with
  | none => rfl
  | some r => exact if_neg (by simp [h r hr])

/-- Settles O35: the bit-clear request by the record found. -/
theorem cancelClearsTheSlotBit : Obligations.CancelClearsTheSlotBit := by
  intro h addr product s hready hmode hlen c u fields k slot rv
  have hserved (t : State) (status : Status) (reply : ReplyFields)
      (hrule : cancelRule addr product u = (some (status, reply), t)) : exec c s = .next (t.answer c status reply) :=
    serve_reply c _ s t status reply hready (modeServes_cancel hmode) (by simp [c, lengthOk, hlen]) hrule
  have hstore : u.store = s.store := by simp [u]
  have hset : u.settings = s.settings := by simp [u]
  have hproductu : u.product? product.toNat = s.product? product.toNat := by simp [u]
  have htest := u.cancelTest_eq addr product
  rw [hproductu] at htest
  have hknown (hproduct : (s.product? product.toNat).isSome = true) : ¬s.product? product.toNat = none :=
    fun hnone => by rw [hnone] at hproduct; cases hproduct
  refine ⟨fun hfields => ?_, fun hfields hproduct => ?_, fun hfields hproduct hnot => ?_, fun r hfields hproduct hr hheld => ?_⟩
  · refine hserved _ _ _ ?_
    rw [if_pos hfields] at htest
    unfold cancelRule
    rw [htest]
    rfl
  · refine hserved _ _ _ ?_
    rw [if_neg (not_not_intro hfields), if_pos hproduct] at htest
    unfold cancelRule
    rw [htest]
    rfl
  · refine hserved _ _ _ ?_
    rw [if_neg (not_not_intro hfields), if_neg (hknown hproduct), State.bitClear_of_not_held (by rw [hstore]; exact hnot)] at htest
    unfold cancelRule
    rw [htest]
    rfl
  · intro map
    obtain ⟨hkey, -⟩ := s.store.find_some k r hr
    let r' : GrantRecord := { r with map := map, place := .revoking rv }
    let g := if r.place.listName = .revoking then s.store.update r' else s.store.move r.place r'
    have hclear := State.bitClear_of_held (s := u) (by rw [hstore]; exact hr) hheld
    rw [hstore, hset] at hclear
    have hrule : cancelRule addr product u = (some (.done, .cancelled rv (map == 0)), u.withStore g) := by
      rw [if_neg (not_not_intro hfields), if_neg (hknown hproduct), hclear] at htest
      unfold cancelRule
      rw [htest]
    have hfind (k' : Key) : g.find k' = if k' = k then some r' else s.store.find k' := by
      have hfound : s.store.find r'.key = some r := by rwa [← hkey] at hr
      have hif : (if k' = r'.key then some r' else s.store.find k') = if k' = k then some r' else s.store.find k' :=
        ite_of_iff (by rw [← hkey]) rfl rfl
      by_cases hplace : r.place.listName = .revoking
      · simp only [g, if_pos hplace]
        rw [GrantStore.find_update _ r' r hfound, hif]
      · simp only [g, if_neg hplace]
        rw [GrantStore.find_move _ _ r' r hfound, hif]
    have hlists : g.prompt = (if r.place.listName = .prompt then s.store.prompt.erase k else s.store.prompt) ∧
        g.ring = (if r.place.listName = .ring then s.store.ring.erase k else s.store.ring) ∧
        g.revoking = (if r.place.listName = .revoking then s.store.revoking else s.store.revoking ++ [k]) := by
      have hself : r'.key = k := hkey
      obtain ⟨hprompt, hring, hrevoking, -⟩ := s.store.move_lists r.place r'
      rw [hself] at hprompt hring hrevoking
      by_cases hplace : r.place.listName = .revoking
      · simp only [g, if_pos hplace]
        rw [hplace]
        exact ⟨rfl, rfl, rfl⟩
      · simp only [g, if_neg hplace]
        rw [hprompt, hring, hrevoking, if_neg hplace]
        simp [r', Place.listName]
    obtain ⟨hprompt, hring, hrevoking⟩ := hlists
    exact ⟨u.withStore g, hserved _ _ _ hrule, (hfind k).trans (if_pos rfl), fun k' hk' => (hfind k').trans (if_neg hk'),
      hprompt, hring, hrevoking, rfl⟩

end Sys2Proof.Machine
end

section
/-! PROOF. Firings one by one, and a pass completed before another transition request (R134, log 13). -/

namespace Sys2Proof.Machine

/-! ### One step of a firing pass (R134) -/

theorem State.markDue_iff (s : State) (now : Nat) :
    s.markDue now = true ↔ ∃ m, s.marks.head? = some m ∧ m.time ≤ now := by
  unfold State.markDue
  cases s.marks with
  | nil => simp
  | cons m marks => simp

/-- A step in which nothing fires ends the pass. -/
theorem State.markFiring_ended {s : State} {now : Nat} {rest : List Nat} (hpasses : s.due.passes = now :: rest)
    (h : s.sup.mode = .configuring ∨ s.fireFirst now = none) : s.markFiring = s.closePass rest := by
  unfold State.markFiring
  rw [hpasses]
  rcases h with hmode | hnone
  · exact if_pos hmode
  · dsimp only
    rw [hnone]
    exact ite_self _

/-- A step in which a mark fires goes on while a further mark is due. -/
theorem State.markFiring_fired {s t : State} {now : Nat} {rest : List Nat} (hpasses : s.due.passes = now :: rest)
    (hmode : s.sup.mode ≠ .configuring) (hfire : s.fireFirst now = some t) :
    s.markFiring = if t.markDue now then t.withDue { t.due with inPass := true } else t.closePass rest := by
  unfold State.markFiring
  rw [hpasses]
  dsimp only
  rw [if_neg hmode, hfire]

/-- Settles O44: the head mark fires by `State.fireFirst_spec`, or no mark does. -/
theorem marksFireInOrder : Obligations.MarksFireInOrder := by
  intro s now rest hrun hpasses hmarks ended
  have hexec : exec .markFiring s = .next s.markFiring := by
    rw [exec_of_ownRow rfl, State.live_running s _ hrun]
  refine ⟨fun hends => ?_, fun m marks hmode first due => ?_⟩
  · exact hexec.trans (congrArg Host.Outcome.next (State.markFiring_ended hpasses (hends.imp_right State.fireFirst_none)))
  · obtain ⟨t, x, y, hfire, hx, hentry, hfired, -⟩ := State.fireFirst_spec hmarks first due
    have hdue : t.due = s.due := by
      obtain ⟨-, -, -, -, -, -, -, -, hframe⟩ := hfired
      rw [hframe]
    refine ⟨t, x, y, hx, hentry, hfired, hexec.trans (congrArg Host.Outcome.next ?_)⟩
    rw [State.markFiring_fired hpasses hmode hfire]
    unfold State.closePass
    rw [hdue]
    by_cases hnext : ∃ m', t.marks.head? = some m' ∧ m'.time ≤ now
    · rw [if_pos ((t.markDue_iff now).mpr hnext), if_pos hnext]
    · rw [if_neg (mt (t.markDue_iff now).mp hnext), if_neg hnext]

/-! ### A pass in progress is completed first (log 13) -/

theorem State.finishPass_twice (s : State) : s.finishPass.finishPass = s.finishPass :=
  s.finishPass.finishPass_idle s.finishPass_inPass

theorem State.finishPass_ready {s : State} (h : s.ready) : s.finishPass.ready := by
  unfold State.ready at h ⊢
  simpa using h

/-- A command whose rule completes the pass first acts as on the completed pass. -/
theorem serve_finishPass {c : Instr} {rule : State → Answer} {s : State} (h : s.ready) (hm : servedIn s.sup.mode c = true)
    (hl : lengthOk c = true) (hrule : rule (s.taken c) = rule (s.taken c).finishPass) :
    serve c rule s = serve c rule s.finishPass := by
  rw [serve_served c rule s h hm hl, serve_served c rule s.finishPass (State.finishPass_ready h) (by simpa using hm) hl,
    ← State.finishPass_taken, ← hrule]

theorem eventActionRule_finishPass (a : Action) (idx : BitVec 8) (s : State) (h : idx.toNat < 32) :
    eventActionRule a idx a.code s = eventActionRule a idx a.code s.finishPass := by
  have hfields : ¬(decide (32 ≤ idx.toNat) || a.code != a.code) = true := by
    simp only [bne_self_eq_false, Bool.or_false, decide_eq_true_eq]
    omega
  unfold eventActionRule
  rw [if_neg hfields, if_neg hfields, State.finishPass_twice]

theorem blackoutRule_finishPass (idx : BitVec 8) (regions : BitVec 64) (s : State) (h : idx.toNat < 32) :
    blackoutRule idx regions s = blackoutRule idx regions s.finishPass := by
  unfold blackoutRule
  rw [if_neg (by omega), if_neg (by omega), State.finishPass_twice]

theorem eventTimesRule_finishPass (idx : BitVec 8) (so k e : BitVec 32) (s : State)
    (h : idx.toNat < 32 ∧ timesOk so k e = true) :
    eventTimesRule idx so k e s = eventTimesRule idx so k e s.finishPass := by
  rw [eventTimesRule_of_fields idx so k e s h, eventTimesRule_of_fields idx so k e s.finishPass h, State.finishPass_twice]

theorem eventRule_finishPass (idx : BitVec 8) (so k e : BitVec 32) (late grace allow : BitVec 16) (s : State)
    (h : idx.toNat < 32 ∧ timesOk so k e = true ∧ windowsOk late grace allow = true) :
    eventRule idx so k e late grace allow s = eventRule idx so k e late grace allow s.finishPass := by
  rw [eventRule_of_fields idx so k e late grace allow s h, eventRule_of_fields idx so k e late grace allow s.finishPass h,
    State.finishPass_twice]

/-- The service of an event action by its rule. -/
theorem exec_actionCommand {h : Hdr} {idx : BitVec 8} {a : Action} {c : Instr} (hc : actionCommand h idx a = some c) (s : State) :
    exec c s = serve c (eventActionRule a idx a.code) s := by
  cases a <;> cases hc <;> rfl

theorem exec_blackout (h : Hdr) (idx : BitVec 8) (regions : BitVec 64) (s : State) :
    exec (.blackout h idx regions) s = serve (.blackout h idx regions) (blackoutRule idx regions) s := rfl

theorem exec_eventTimes (h : Hdr) (idx : BitVec 8) (so k e : BitVec 32) (s : State) :
    exec (.eventTimes h idx so k e) s = serve (.eventTimes h idx so k e) (eventTimesRule idx so k e) s := rfl

theorem exec_event (h : Hdr) (idx : BitVec 8) (so k e : BitVec 32) (late grace allow : BitVec 16) (s : State) :
    exec (.event h idx so k e late grace allow) s =
      serve (.event h idx so k e late grace allow) (eventRule idx so k e late grace allow) s := rfl

theorem State.reserved_finishPass (s : State) (n : Nat) : s.finishPass.reserved n = s.reserved n := by
  unfold State.reserved
  simp

theorem cueBindRule_finishPass {line ev action level : BitVec 8} {debounce : BitVec 16} {s : State}
    (h : BindFields line ev action level debounce) (hreserved : s.reserved line.toNat = false) :
    cueBindRule line ev action level debounce s = cueBindRule line ev action level debounce s.finishPass := by
  have ⟨_, _, haction, _⟩ := h
  obtain ⟨a, ha⟩ := Option.isSome_iff_exists.mp haction
  rw [cueBindRule_of_fields h ha, cueBindRule_of_fields h ha, State.reserved_finishPass, hreserved, State.finishPass_twice]
  rfl

theorem cueUnbindRule_finishPass {line form : BitVec 8} {s : State} (h : cueClearRefusal 1 line form s = none) :
    cueUnbindRule line form s = cueUnbindRule line form s.finishPass := by
  have hdone : cueClearRefusal 1 line form s.finishPass = none := by
    unfold cueClearRefusal at h ⊢
    rw [State.reserved_finishPass]
    simpa using h
  unfold cueUnbindRule
  rw [h, hdone, State.finishPass_twice]

/-- A line written before or after the pass is completed. -/
theorem State.finishPass_setLine (s : State) (n : Nat) (l : CueLine) : (s.setLine n l).finishPass = s.finishPass.setLine n l := by
  have h := s.finishPass_withCues (s.setLine n l).cues
  have hcues : (s.setLine n l).cues = (s.finishPass.setLine n l).cues := by simp [State.setLine]
  rw [hcues] at h
  exact (congrArg (fun q => (s.withCues q).finishPass) hcues).trans h

/-- A cue's request acts as on the completed pass. -/
theorem State.cueRequest_finishPass {s : State} (h : s.sup.mode ≠ .configuring) (line : Nat) (a : Action) (i seconds ms : Nat) :
    s.cueRequest line a i seconds ms = s.finishPass.cueRequest line a i seconds ms := by
  have hdone : s.finishPass.sup.mode ≠ .configuring := by simpa using h
  unfold State.cueRequest
  rw [if_neg h, if_neg hdone, State.finishPass_twice]

theorem exec_debounceExpiry_finishPass {s : State} {n now left : Nat} {reference : Bool} {history : List Nat} {b : Binding}
    (hrun : s.run = .running) (hstate : (s.cues.line n).state = .armed reference (some left) history)
    (hbinding : (s.cues.line n).binding = some b) (hchatter : ¬(history.length = 4 ∧ now ≤ history.headD 0 + 2000))
    (hacts : s.cues.pins.getLsbD n = b.active ∨ b.action = .hold) (hmode : s.sup.mode ≠ .configuring) :
    exec (.debounceExpiry n now) s = exec (.debounceExpiry n now) s.finishPass := by
  have hcues : s.finishPass.cues = s.cues := by simp
  have hclock : s.finishPass.clock = s.clock := by simp
  obtain ⟨a, ha⟩ : ∃ a, b.action.requested (s.cues.pins.getLsbD n == b.active) = some a := by
    rcases hacts with hpin | hhold
    · rw [hpin, beq_self_eq_true]
      cases b.action <;> exact ⟨_, rfl⟩
    · rw [hhold]
      cases (s.cues.pins.getLsbD n == b.active) <;> exact ⟨_, rfl⟩
  have hedge := State.acceptEdge_eq (s := s) (now := now) hstate hbinding
  have hdone := State.acceptEdge_eq (s := s.finishPass) (n := n) (now := now) (by rw [hcues]; exact hstate)
    (by rw [hcues]; exact hbinding)
  rw [hcues, hclock] at hdone
  dsimp only at hedge hdone
  rw [if_neg (mt (isChatter_iff history now).mp hchatter), ha] at hedge hdone
  rw [exec_debounceExpiry, exec_debounceExpiry, State.live_running s _ hrun,
    State.live_running s.finishPass _ (by simpa using hrun), hedge, hdone]
  dsimp only
  rw [State.cueRequest_finishPass (by exact hmode), State.finishPass_setLine]

theorem exec_coolingTimerExpiry_finishPass {s : State} {n left : Nat} {b : Binding} (hrun : s.run = .running)
    (hstate : (s.cues.line n).state = .cooling left) (hbinding : (s.cues.line n).binding = some b)
    (hacts : b.action = .hold ∧ s.cues.pins.getLsbD n = b.active) (hmode : s.sup.mode ≠ .configuring) :
    exec (.coolingTimerExpiry n) s = exec (.coolingTimerExpiry n) s.finishPass := by
  have hcues : s.finishPass.cues = s.cues := by simp
  have hclock : s.finishPass.clock = s.clock := by simp
  have hends := State.endCooling_eq (s := s) hstate hbinding
  have hdone := State.endCooling_eq (s := s.finishPass) (n := n) (by rw [hcues]; exact hstate) (by rw [hcues]; exact hbinding)
  rw [hcues, hclock] at hdone
  dsimp only at hends hdone
  rw [if_pos hacts] at hends hdone
  rw [exec_coolingTimerExpiry, exec_coolingTimerExpiry, State.live_running s _ hrun,
    State.live_running s.finishPass _ (by simpa using hrun), hends, hdone,
    State.cueRequest_finishPass (by exact hmode), State.finishPass_setLine]

/-- The completed pass is a whole firing pass (R134). -/
theorem State.finishPass_spec {s : State} {now : Nat} {rest : List Nat} (hlength : s.events.length = 32) (h : s.MarksOk)
    (hpasses : s.due.passes = now :: rest) (hpass : s.due.inPass = true) :
    (∃ u : State, FiringPass now s u ∧ s.finishPass = u.withDue { s.due with passes := rest, inPass := false }) ∧
    s.finishPass.MarksOk ∧ ∀ m ∈ s.finishPass.marks, now < m.time := by
  obtain ⟨hfired, hok, hnone⟩ := s.firePass_spec now h hlength
  have hdue : (s.firePass now).due = s.due := by simp
  have hfinish : s.finishPass = (s.firePass now).withDue { s.due with passes := rest, inPass := false } := by
    unfold State.finishPass
    rw [if_pos hpass, hpasses]
    dsimp only
    rw [hdue]
  rw [hfinish]
  exact ⟨⟨_, hfired, rfl⟩, hok.congr rfl rfl, hnone⟩

/-- Settles O45: each row's rule reads the state through `finishPass`, which is idempotent. -/
theorem passInProgressIsCompletedFirst : Obligations.PassInProgressIsCompletedFirst := by
  refine ⟨fun c h idx s hready hserved hlen hidx hc => ?_, ?_, ?_, ?_, ?_, ?_⟩
  · rcases hc with ⟨a, ha⟩ | ⟨regions, rfl⟩ | ⟨so, k, e, rfl, htimes⟩ | ⟨so, k, e, late, grace, allow, rfl, htimes, hwindows⟩
    · rw [exec_actionCommand ha, exec_actionCommand ha]
      exact serve_finishPass hready hserved hlen (eventActionRule_finishPass a idx _ hidx)
    · rw [exec_blackout, exec_blackout]
      exact serve_finishPass hready hserved hlen (blackoutRule_finishPass idx regions _ hidx)
    · rw [exec_eventTimes, exec_eventTimes]
      exact serve_finishPass hready hserved hlen (eventTimesRule_finishPass idx so k e _ ⟨hidx, htimes⟩)
    · rw [exec_event, exec_event]
      exact serve_finishPass hready hserved hlen (eventRule_finishPass idx so k e late grace allow _ ⟨hidx, htimes, hwindows⟩)
  · intro h line ev action level debounce s hready hmode hlen hline hev haction hlevel hlo hhi hfree
    rw [exec_cueBind, exec_cueBind]
    refine serve_finishPass hready (modeServes_cues hmode).1 (by simp [lengthOk, hlen])
      (cueBindRule_finishPass ⟨hline, hev, haction, hlevel, hlo, hhi⟩ (Bool.eq_false_iff.mpr ?_))
    rw [ne_eq, State.reserved_iff]
    simpa using hfree
  · intro h line s hready hmode hlen hline hfree hbound
    rw [exec_cueClearUnbind, exec_cueClearUnbind]
    refine serve_finishPass hready (modeServes_cues hmode).2 (by simp [lengthOk, hlen]) (cueUnbindRule_finishPass ?_)
    rw [cueClearRefusal_eq (show (1 : BitVec 8).toNat = 1 from rfl), if_neg (by omega), if_neg (by simpa using hfree), if_neg (by simpa using hbound)]
  · intro n now s reference left history b hrun _ hstate hbinding hchatter hacts hmode
    exact exec_debounceExpiry_finishPass hrun hstate hbinding hchatter hacts hmode
  · intro n left s b hrun hstate hbinding hhold hpin hmode
    exact exec_coolingTimerExpiry_finishPass hrun hstate hbinding ⟨hhold, hpin⟩ hmode
  · intro s now rest hlength hmarks hpasses hpass
    exact State.finishPass_spec hlength hmarks hpasses hpass

end Sys2Proof.Machine
end

section
/-! PROOF. Second marks at the Arbiter, rate intervals, the ranks of the sources, and the slot grants (R75 to R77, R84 to
R110). -/

namespace Sys2Proof.Machine

/-! ### Announcements at a second mark (R105, R107) -/

/-- Event i joins the announcement list at a second mark (R106, R107). -/
def State.announces (s : State) (i : Nat) : Bool :=
  (s.event? i).elim false fun e =>
    e.intervalDue s.clock.seconds s.settings.inForce.announceInterval && !s.arbiter.announcements.contains i &&
      !s.arbiter.retired.getLsbD i

theorem State.checkInterval_eq (s : State) (i : Nat) :
    s.checkInterval i =
      if s.announces i then s.withArbiter { s.arbiter with announcements := s.arbiter.announcements ++ [i] } else s := by
  unfold State.checkInterval State.announces State.requestAnnouncement
  cases he : s.event? i with
  | none => rfl
  | some e =>
    dsimp only [Option.elim_some]
    by_cases hdue : e.intervalDue s.clock.seconds s.settings.inForce.announceInterval = true
    · cases hlisted : s.arbiter.announcements.contains i <;> cases hretired : s.arbiter.retired.getLsbD i <;> simp [hdue]
    · simp [hdue]

/-- The check of one event leaves the check of another as it is. -/
theorem State.announces_of_ne (s : State) {i j : Nat} (h : j ≠ i) :
    (s.withArbiter { s.arbiter with announcements := s.arbiter.announcements ++ [i] }).announces j = s.announces j := by
  have hlisted : (s.arbiter.announcements ++ [i]).contains j = s.arbiter.announcements.contains j := by
    rw [Bool.eq_iff_iff, List.contains_iff_mem, List.contains_iff_mem]
    simp [h]
  unfold State.announces
  simp only [State.withArbiter_arbiter, State.withArbiter_clock, State.withArbiter_settings, hlisted]
  rfl

/-- The events of a list that join, in its order (R107). -/
theorem State.foldl_checkInterval (l : List Nat) (s : State) (h : l.Nodup) :
    l.foldl State.checkInterval s =
      s.withArbiter { s.arbiter with announcements := s.arbiter.announcements ++ l.filter s.announces } := by
  induction l generalizing s with
  | nil => simp [State.withArbiter]
  | cons i l ih =>
    obtain ⟨hi, hl⟩ := List.nodup_cons.mp h
    rw [List.foldl_cons, State.checkInterval_eq, List.filter_cons]
    cases hjoins : s.announces i with
    | false => exact ih s hl
    | true =>
      simp only [if_true]
      rw [ih _ hl, List.filter_congr fun j hj => s.announces_of_ne (i := i) (ne_of_mem_of_not_mem hj hi)]
      simp only [State.withArbiter, List.append_assoc, List.singleton_append]

/-! ### Rate intervals (R75 to R77) -/

/-- Settles O47: the check over the events in ascending index, and the three cases of the smoothed rate. -/
theorem announcementsAndRateFollowTheirTicks : Obligations.AnnouncementsAndRateFollowTheirTicks := by
  refine ⟨fun s hrun hdue => ?_, fun s hrun _ => ?_⟩
  · intro interval joins
    let u := ((s.withDue { s.due with announce := s.due.announce - 1 }).withArbiter
      { s.arbiter with timePending := true }).withSettings
        { s.settings with inForce := { s.settings.inForce with announceInterval := interval } }
    have hjoins : u.announces = joins := by
      funext i
      have hevent : u.event? i = s.event? i := rfl
      unfold State.announces
      simp only [joins]
      rw [hevent]
      cases s.event? i with
      | none => rfl
      | some e =>
        dsimp only [Option.elim_some]
        unfold EventEntry.intervalDue
        have hand (a b c d : Bool) : (a && b && c && d) = (a && c && d && b) := by
          cases a <;> cases b <;> cases c <;> cases d <;> rfl
        rw [hand]
        cases e.lastAnnounced <;> rfl
    have hmark : s.announceCheck = (List.range 32).foldl State.checkInterval u := by
      unfold State.announceCheck
      rw [if_neg (by omega)]
      rfl
    rw [exec_of_ownRow rfl, State.live_running s _ hrun, hmark, State.foldl_checkInterval _ u List.nodup_range, hjoins]
    rfl
  · refine ⟨nextA16 s.pacing.seeded s.pacing.a16 s.pacing.slotCount, fun hseeded => ?_, fun hseeded hup => ?_,
      fun hseeded hdown => ?_, ?_⟩
    · rw [hseeded, nextA16_unseeded]
    · rw [hseeded, nextA16_up hup]
    · rw [hseeded, nextA16_down hdown]
    · rw [exec_of_ownRow rfl, State.live_running s _ hrun]
      rfl

/-! ### The ranks of the sources (R99, R100) -/

theorem Mode.ranked_iff (m : Mode) : m.ranked = true ↔ m = .serving ∨ m = .maintenance ∨ m = .holdover := by
  cases m <;> simp [Mode.ranked]

theorem GrantStore.headOf_of_head {g : GrantStore} {l : List Key} {k : Key} {r : GrantRecord} (hk : l.head? = some k)
    (hr : g.find k = some r) : g.headOf l = some r := by
  unfold GrantStore.headOf
  rw [hk]
  exact hr

theorem GrantStore.headOf_nil (g : GrantStore) : g.headOf [] = none := rfl

theorem State.source_of_unranked {s : State} (h : s.sup.mode.ranked = false) : s.source = .filler := by
  unfold State.source
  rw [h]
  rfl

theorem State.source_of_demand {s : State} {r : GrantRecord} (hranked : s.sup.mode.ranked = true) (hdemand : s.demand = true)
    (hr : s.store.headOf s.store.ring = some r) : s.source = .record r := by
  unfold State.source State.demandHead
  rw [hranked, if_pos hdemand, hr]
  rfl

theorem State.source_of_revoking {s : State} {r : GrantRecord} (hranked : s.sup.mode.ranked = true) (hdemand : s.demand = false)
    (hr : s.store.headOf s.store.revoking = some r) : s.source = .record r := by
  unfold State.source State.demandHead
  rw [hranked, hdemand, hr]
  rfl

/-- The ranks behind the revocation queue. -/
theorem State.source_of_quiet {s : State} (hranked : s.sup.mode.ranked = true) (hdemand : s.demand = false)
    (hrevoking : s.store.revoking = []) :
    s.source =
      if s.arbiter.timePending then .time
      else
        s.announceHead.elim
          ((s.store.headOf s.store.prompt).elim ((s.store.headOf s.store.ring).elim .filler .record) .record)
          fun x => .announce x.1 x.2 := by
  unfold State.source State.demandHead
  rw [hranked, hdemand, hrevoking, GrantStore.headOf_nil]
  cases s.announceHead <;> cases s.store.headOf s.store.prompt <;> cases s.store.headOf s.store.ring <;> rfl

/-- Settles O48: rank by rank. -/
theorem sourceFollowsTheRanks : Obligations.SourceFollowsTheRanks := by
  intro s k r i e ranked due quiet
  have hranked : s.sup.mode.ranked = true ↔ ranked := s.sup.mode.ranked_iff
  have hdemand : s.demand = true ↔ due := s.demand_iff
  have hcalm (h : ¬due) : s.demand = false := Bool.eq_false_iff.mpr (mt hdemand.mp h)
  have hquiet (hr : ranked) (hq : quiet) := State.source_of_quiet (hranked.mpr hr) (hcalm hq.1) hq.2
  have hnoevent (hnone : s.arbiter.announcements = []) : s.announceHead = none := by
    unfold State.announceHead
    rw [hnone]
  refine ⟨fun h => ?_, fun hr hd hk hf => ?_, fun hr hd hk hf => ?_, fun hr hq ht => ?_, fun hr hq ht hi he => ?_,
    fun hr hq ht ha hk hf => ?_, fun hr hq ht ha hp hk hf => ?_, fun hr hq ht ha hp hring => ?_⟩
  · exact State.source_of_unranked (Bool.eq_false_iff.mpr (mt hranked.mp h))
  · exact State.source_of_demand (hranked.mpr hr) (hdemand.mpr hd) (GrantStore.headOf_of_head hk hf)
  · exact State.source_of_revoking (hranked.mpr hr) (hcalm hd) (GrantStore.headOf_of_head hk hf)
  · rw [hquiet hr hq, ht]
    rfl
  · have hhead : s.announceHead = some (i, e) := by
      obtain ⟨rest, hlist⟩ := List.head?_eq_some_iff.mp hi
      unfold State.announceHead
      rw [hlist]
      dsimp only
      rw [he]
      rfl
    rw [hquiet hr hq, ht, hhead]
    rfl
  · rw [hquiet hr hq, ht, hnoevent ha, GrantStore.headOf_of_head hk hf]
    rfl
  · rw [hquiet hr hq, ht, hnoevent ha, hp, GrantStore.headOf_nil, GrantStore.headOf_of_head hk hf]
    rfl
  · rw [hquiet hr hq, ht, hnoevent ha, hp, hring, GrantStore.headOf_nil]
    rfl

/-! ### Slot grants (R95 to R97) -/

theorem exec_slotGrant (us : Nat) (s : State) :
    exec (.slotGrant us) s = s.live fun s => if s.port.answers us then s.answerGrant us else s := rfl

theorem Port.answers_iff (p : Port) (us : Nat) : p.answers us = true ↔ ∀ t, p.lastGrant = some t → t + 200 ≤ us := by
  unfold Port.answers
  cases p.lastGrant <;> simp

/-- A grant that is not answered changes nothing (R95). -/
theorem exec_slotGrant_ignored {us : Nat} {s : State} (hrun : s.run = .running)
    (h : ¬∀ t, s.port.lastGrant = some t → t + 200 ≤ us) : exec (.slotGrant us) s = .next s := by
  rw [exec_slotGrant, State.live_running s _ hrun, if_neg (mt (s.port.answers_iff us).mp h)]

/-- The source of a grant is chosen as before the grant was counted. -/
theorem State.granted_source (s : State) (us : Nat) : (s.granted us).source = s.source := rfl

/-- A grant that is answered takes its source and loads the frame (R95). -/
theorem exec_slotGrant_answered {us : Nat} {s : State} {x : Source} (hrun : s.run = .running)
    (h : ∀ t, s.port.lastGrant = some t → t + 200 ≤ us) (hx : s.source = x) :
    exec (.slotGrant us) s = .next (((s.granted us).takeSource x).2.loadFrame ((s.granted us).takeSource x).1) := by
  rw [exec_slotGrant, State.live_running s _ hrun, if_pos ((s.port.answers_iff us).mpr h), State.answerGrant_eq,
    State.granted_source, hx]

/-- The port after an answered grant, the frame not yet loaded (R95, R97). -/
theorem Port.fed_eq (p : Port) (us : Nat) (ranked : Bool) :
    let feeds := ranked = true ∧ (p.starvation.isSome = true ∨ p.starved = true)
    Port.fed { p with lastGrant := some us } ranked =
      { p with
        lastGrant := some us, starvation := if feeds then some 2000 else p.starvation,
        starved := if feeds then false else p.starved } := by
  intro feeds
  have hfeeds : (ranked && (p.starvation.isSome || p.starved)) = true ↔ feeds := by simp [feeds]
  unfold Port.fed
  dsimp only
  by_cases h : feeds
  · rw [if_pos (hfeeds.mpr h), if_pos h, if_pos h]
  · rw [if_neg (mt hfeeds.mp h), if_neg h, if_neg h]

/-- Settles O49: what each source without a record leaves, and the frame it loads. -/
theorem grantsWithoutARecord : Obligations.GrantsWithoutARecord := by
  intro us s hrun answered ranked feeds port u next
  have hfed : (s.granted us).port =
      { s.port with
        lastGrant := some us, starvation := if feeds then some 2000 else s.port.starvation,
        starved := if feeds then false else s.port.starved } := by
    have hfeeds : feeds ↔ s.sup.mode.ranked = true ∧ (s.port.starvation.isSome = true ∨ s.port.starved = true) :=
      and_congr_left' s.sup.mode.ranked_iff.symm
    refine (s.port.fed_eq us s.sup.mode.ranked).trans ?_
    simp only [hfeeds]
  have hport (seq : BitVec 16) (body : FrameBody) :
      { (s.granted us).port with transfer := .shifting ⟨seq, body⟩ 256 } = port seq body := by rw [hfed]
  have hgranted : s.granted us = u.withPort (s.granted us).port := rfl
  refine ⟨fun h => exec_slotGrant_ignored hrun h, fun ha hx => ?_, fun ha hx => ?_, fun i e ha hx => ?_⟩
  · rw [exec_slotGrant_answered hrun ha hx, ← hport]
    rfl
  · rw [exec_slotGrant_answered hrun ha hx, ← hport]
    rfl
  · have hfinished : (e.state == .closed || e.state == .void) = true ↔ e.state = .closed ∨ e.state = .void := by simp
    rw [exec_slotGrant_answered hrun ha hx, ← hport]
    simp only [← hfinished]
    rfl

end Sys2Proof.Machine
end

section
/-! PROOF. The emission of a record: its stamp, its frame, the lapse, and its place afterwards (R34, R39 to R41, R73, R84 to
R88, R101 to R104). -/

namespace Sys2Proof.Machine

/-! ### The stamp and the lapse (R84, R86, R88) -/

theorem State.stretches_iff (s : State) : s.stretches = true ↔ s.sup.mode = .holdover ∧ s.sup.policy = .stretch := by
  simp [State.stretches]

/-- A stamp under an end that is open, closed or absent (R84, R86). -/
theorem stampOf_openEnd (stretch : Bool) (now window : Nat) :
    stampOf stretch now window .openEnd = ⟨if stretch then capSecond (now + 3600) else capSecond (now + window), false⟩ := rfl

theorem stampOf_closedAt (stretch : Bool) (now window b : Nat) :
    stampOf stretch now window (.closedAt b) =
      if capSecond (now + window) ≤ b then
        ⟨min b (if stretch then capSecond (now + 3600) else capSecond (now + window)), false⟩
      else ⟨b, true⟩ := by
  unfold stampOf
  by_cases h : capSecond (now + window) ≤ b
  · rw [if_pos h]
    exact if_neg (by omega)
  · rw [if_neg h]
    exact if_pos (by omega)

theorem stampOf_noBound (stretch : Bool) (now window : Nat) : stampOf stretch now window .noBound = ⟨now, true⟩ := rfl

theorem lapses_iff (stamp : Option Stamp) (now : Nat) :
    lapses stamp now = true ↔ ∃ p, stamp = some p ∧ p.clamped = false ∧ p.horizon ≤ now := by
  unfold lapses
  cases stamp <;> simp

/-! ### The copies that a place owes (R39) -/

/-- The copies owed by a record at this place, none outside the revocation queue. -/
def Place.owed : Place → Nat
  | .revoking n => n
  | .prompt | .ring _ => 0

theorem Place.copies_eq (p : Place) : p.copies = p.owed - 1 := by cases p <;> rfl

theorem Place.revoke_eq (p : Place) : p.revoke = decide (p.listName = .revoking) := by cases p <;> rfl

theorem Place.eq_of_owed {p : Place} (h : 2 ≤ p.owed) : ∃ n, p = .revoking (n + 2) ∧ p.owed = n + 2 := by
  cases p with
  | prompt => simp [Place.owed] at h
  | ring due => simp [Place.owed] at h
  | revoking n =>
    obtain ⟨m, rfl⟩ : ∃ m, n = m + 2 := ⟨n - 2, by simp only [Place.owed] at h; omega⟩
    exact ⟨m, rfl, rfl⟩

/-! ### The placement (R40, R41, R73) -/

/-- A placement changes the store and the record counts alone. -/
theorem State.placeEmitted_eq (s : State) (r : GrantRecord) :
    s.placeEmitted r = (s.withStore (s.placeEmitted r).store).withProducts (s.placeEmitted r).products := by
  unfold State.placeEmitted
  split
  · rfl
  · split <;> rfl
  · rfl

/-- The due time that a record joining the ring is given: never before that of the tail (R73). -/
def State.joinDue (s : State) (r : GrantRecord) : Nat :=
  joiningDue s.clock.seconds s.pacing.window s.settings.current.guard (s.store.unlist r.key r.place).tailDue

section
variable {s : State} {r sent : GrantRecord} (hkey : sent.key = r.key) (hplace : sent.place = r.place)
include hplace

theorem State.placeEmitted_owing {n : Nat} (hn : r.place = .revoking (n + 2)) :
    s.placeEmitted sent = s.withStore (s.store.move r.place { sent with place := .revoking (n + 1) }) := by
  unfold State.placeEmitted
  rw [hplace, hn]

/-- A record that owes no further copy, of a map not empty in the revocation queue, joins the ring. -/
theorem State.placeEmitted_joining (hmap : sent.map = r.map) (howed : r.place.owed ≤ 1)
    (hheld : r.place.listName = .revoking → r.map ≠ 0) :
    s.placeEmitted sent = s.withStore (s.joinRing sent) := by
  unfold State.placeEmitted
  rw [hplace]
  cases hp : r.place with
  | prompt => rfl
  | ring due => rfl
  | revoking n =>
    rw [hp] at howed hheld
    match n, howed with
    | 0, _ => exact if_neg (hmap ▸ hheld rfl)
    | 1, _ => exact if_neg (hmap ▸ hheld rfl)

include hkey

theorem State.joinRing_eq : s.joinRing sent = s.store.move r.place { sent with place := .ring (s.joinDue r) } := by
  unfold State.joinRing GrantStore.move State.joinDue
  rw [hkey, hplace]

theorem State.placeEmitted_freed (hmap : sent.map = r.map) (howed : r.place.owed ≤ 1) (hlist : r.place.listName = .revoking)
    (hempty : r.map = 0) : s.placeEmitted sent = s.freeRecord r := by
  have hfreed : s.freeRecord sent = s.freeRecord r := by
    unfold State.freeRecord GrantStore.free
    rw [hkey, hplace]
  rw [← hfreed]
  unfold State.placeEmitted
  rw [hplace]
  cases hp : r.place with
  | prompt => rw [hp] at hlist; cases hlist
  | ring due => rw [hp] at hlist; cases hlist
  | revoking n =>
    rw [hp] at howed
    match n, howed with
    | 0, _ => exact if_pos (hmap.trans hempty)
    | 1, _ => exact if_pos (hmap.trans hempty)

end

/-- The due time of the ring's tail once the record is out of its list. -/
theorem State.joinDue_eq {s : State} {r : GrantRecord} (hw : s.store.Wf) (hr : r ∈ s.store.records) :
    s.joinDue r =
      max (min (s.clock.seconds + s.pacing.window - s.settings.current.guard) 4294967295)
        ((s.store.ring.erase r.key).getLast?.elim 0 fun k => (s.store.dueOf k).getD 0) := by
  unfold State.joinDue joiningDue GrantStore.tailDue
  rw [hw.unlist_eq hr]
  dsimp only
  cases (s.store.ring.erase r.key).getLast? <;> rfl

/-! ### The lists and the records after the placement -/

section
variable {g : GrantStore} {r sent : GrantRecord} (hw : g.Wf) (hr : r ∈ g.records) (hkey : sent.key = r.key)
include hw hr hkey

/-- Finding after the emitted record was placed. -/
theorem GrantStore.Wf.find_placed (p : Place) (k : Key) :
    (g.move r.place { sent with place := p }).find k =
      if k = r.key then some { sent with place := p } else g.find k := by
  rw [GrantStore.find_move g r.place { sent with place := p } r (by rw [hkey]; exact hw.find_key hr)]
  exact ite_of_iff (by rw [hkey]) rfl rfl

/-- The record goes to the tail of the list of its new place. -/
theorem GrantStore.Wf.lists_placed (p : Place) :
    g.move r.place { sent with place := p } =
      GrantStore.enlist
        { records := (g.update { sent with place := p }).records, prompt := g.prompt.erase r.key,
          ring := g.ring.erase r.key, revoking := g.revoking.erase r.key, highArmed := g.highArmed } r.key p :=
  hw.move_eq hr _ hkey

end

/-! ### The frame and the counts -/

/-- The state of a grant that sends a record, before the record is placed. -/
def State.counted (s : State) (us : Nat) (r : GrantRecord) : State :=
  (s.withPacing
    (if lapses r.stamp s.clock.seconds then
      Pacing.countLapse { s.pacing with slotCount := min 5000 (s.pacing.slotCount + 1) }
    else { s.pacing with slotCount := min 5000 (s.pacing.slotCount + 1) })).withPort (s.granted us).port

/-- The stamp of an emission (R84, R86). -/
def State.stampFor (s : State) (r : GrantRecord) : Stamp :=
  stampOf s.stretches s.clock.seconds s.pacing.window (s.boundOfProduct r.key.product)

/-- The record as it is emitted (R39). -/
def State.sent (s : State) (r : GrantRecord) : GrantRecord :=
  { r with stamp := some (s.stampFor r), emissions := min 65535 (r.emissions + 1) }

theorem State.emit_granted (s : State) (us : Nat) (r : GrantRecord) :
    (s.granted us).emit r =
      (.grant r.key.product r.key.block r.map (s.stampFor r).horizon r.place.revoke (s.stampFor r).clamped r.place.copies,
        (s.counted us r).placeEmitted (s.sent r)) := by
  have hcounted : (if lapses r.stamp s.clock.seconds then (s.granted us).withPacing (s.granted us).pacing.countLapse
      else s.granted us) = s.counted us r := by
    unfold State.counted
    cases lapses r.stamp s.clock.seconds <;> rfl
  rw [← hcounted]
  rfl

/-- A record source comes of a mode that emits (R99). -/
theorem State.ranked_of_source {s : State} {r : GrantRecord} (h : s.source = .record r) : s.sup.mode.ranked = true := by
  cases hranked : s.sup.mode.ranked with
  | true => rfl
  | false => rw [State.source_of_unranked hranked] at h; cases h

/-- The frame of an emission (R39, R103). -/
def State.emissionBody (s : State) (r : GrantRecord) : FrameBody :=
  .grant r.key.product r.key.block r.map (s.stampFor r).horizon (decide (r.place.listName = .revoking)) (s.stampFor r).clamped
    (r.place.owed - 1)

/-- The record placed after its emission (R40, R41). -/
def State.placed (s : State) (us : Nat) (r : GrantRecord) : State := (s.counted us r).placeEmitted (s.sent r)

theorem State.takeSource_record (s : State) (us : Nat) (r : GrantRecord) :
    (s.granted us).takeSource (.record r) = (some (s.emissionBody r), s.placed us r) := by
  unfold State.takeSource State.emissionBody State.placed
  dsimp only
  rw [s.emit_granted us r, r.place.revoke_eq, r.place.copies_eq]

/-- A placed record leaves all but the store and the counts as they were. -/
theorem State.placed_frame (s : State) (us : Nat) (r : GrantRecord) :
    s.placed us r = { s with
      pacing := (s.counted us r).pacing, port := (s.granted us).port, store := (s.placed us r).store,
      products := (s.placed us r).products } :=
  ((s.counted us r).placeEmitted_eq (s.sent r)).trans rfl

/-- The state after the grant. -/
def State.emitted (s : State) (us : Nat) (r : GrantRecord) : State :=
  { s with
    pacing := (s.counted us r).pacing,
    port := { (s.granted us).port with transfer := .shifting ⟨s.arbiter.seq + 1, s.emissionBody r⟩ 256 },
    store := (s.placed us r).store,
    products := (s.placed us r).products,
    arbiter := { s.arbiter with seq := s.arbiter.seq + 1 } }

theorem exec_slotGrant_record {us : Nat} {s : State} {r : GrantRecord} (hrun : s.run = .running)
    (ha : ∀ t, s.port.lastGrant = some t → t + 200 ≤ us) (hsource : s.source = .record r) :
    exec (.slotGrant us) s = .next (s.emitted us r) := by
  rw [exec_slotGrant_answered hrun ha hsource, State.takeSource_record]
  dsimp only
  rw [State.placed_frame]
  rfl

/-- The port after the grant: a mode that emits runs the starvation timer again, where it ran or had run out (R97). -/
theorem State.granted_port {s : State} (hranked : s.sup.mode.ranked = true) (us : Nat) :
    (s.granted us).port =
      { s.port with
        lastGrant := some us,
        starvation := if s.port.starvation.isSome = true ∨ s.port.starved = true then some 2000 else none,
        starved := false } := by
  refine (s.port.fed_eq us s.sup.mode.ranked).trans ?_
  simp only [hranked, true_and]
  by_cases h : s.port.starvation.isSome = true ∨ s.port.starved = true
  · simp only [if_pos h]
  · obtain ⟨htimer, hstarved⟩ := not_or.mp h
    simp only [if_neg h]
    rw [Option.not_isSome_iff_eq_none.mp htimer, Bool.eq_false_iff.mpr hstarved]

theorem State.counted_pacing (s : State) (us : Nat) (r : GrantRecord) :
    (s.counted us r).pacing =
      if lapses r.stamp s.clock.seconds then
        Pacing.countLapse { s.pacing with slotCount := min 5000 (s.pacing.slotCount + 1) }
      else { s.pacing with slotCount := min 5000 (s.pacing.slotCount + 1) } := rfl

/-! ### The three placements (R34, R40, R41) -/

section
variable {s : State} {r : GrantRecord} (us : Nat)

theorem State.placed_owing {n : Nat} (hplace : r.place = .revoking (n + 2)) :
    s.placed us r =
      (s.counted us r).withStore (s.store.move r.place { s.sent r with place := .revoking (n + 1) }) :=
  State.placeEmitted_owing (s := s.counted us r) (sent := s.sent r) rfl hplace

theorem State.placed_joining (howed : r.place.owed ≤ 1) (hheld : r.place.listName = .revoking → r.map ≠ 0) :
    s.placed us r =
      (s.counted us r).withStore
        (s.store.move r.place { s.sent r with place := .ring ((s.counted us r).joinDue r) }) :=
  (State.placeEmitted_joining (s := s.counted us r) (sent := s.sent r) rfl rfl howed hheld).trans
    (congrArg (s.counted us r).withStore (State.joinRing_eq (sent := s.sent r) rfl rfl))

theorem State.placed_freed (howed : r.place.owed ≤ 1) (hlist : r.place.listName = .revoking) (hempty : r.map = 0) :
    s.placed us r = (s.counted us r).freeRecord r :=
  State.placeEmitted_freed (s := s.counted us r) (sent := s.sent r) rfl rfl rfl howed hlist hempty

/-- Every other record stays as it is. -/
theorem State.placed_find_ne (hw : s.store.Wf) (hr : r ∈ s.store.records) {k : Key} (hk : k ≠ r.key) :
    (s.placed us r).store.find k = s.store.find k := by
  have hmoved (p : Place) : (s.store.move r.place { s.sent r with place := p }).find k = s.store.find k :=
    (hw.find_placed hr (sent := s.sent r) rfl p k).trans (if_neg hk)
  by_cases howed : 2 ≤ r.place.owed
  · obtain ⟨n, hplace, -⟩ := Place.eq_of_owed howed
    rw [State.placed_owing us hplace]
    exact hmoved _
  · by_cases hends : r.place.listName = .revoking ∧ r.map = 0
    · rw [State.placed_freed us (by omega) hends.1 hends.2]
      exact (GrantStore.find_free _ r k).trans (if_neg hk)
    · rw [State.placed_joining us (by omega) fun hlist hempty => hends ⟨hlist, hempty⟩]
      exact hmoved _

end

/-- Settles O50: the frame and the counts by `State.emit_granted`, the placement by its three cases. -/
theorem emissionStampsAndPlaces : Obligations.EmissionStampsAndPlaces := by
  intro us s r hrun ha hok hsource hfind now cap near far bound stamp lapse sent others tailDue due copies
  obtain ⟨hw, -⟩ := hok
  obtain ⟨-, hr⟩ := s.store.find_some _ _ hfind
  have hstamp : s.stampFor r = stamp := by
    have hfar : (if s.stretches then capSecond (now + 3600) else capSecond (now + s.pacing.window)) = far :=
      ite_of_iff s.stretches_iff rfl rfl
    unfold State.stampFor
    simp only [stamp, bound]
    cases s.boundOfProduct r.key.product with
    | openEnd => rw [stampOf_openEnd, hfar]
    | closedAt b => rw [stampOf_closedAt, hfar]; rfl
    | noBound => rfl
  have hcopies : r.place.owed = copies := by
    simp only [copies]
    cases r.place <;> rfl
  have hsent : s.sent r = sent := by
    unfold State.sent
    rw [hstamp]
  have hdue : (s.counted us r).joinDue r = due := by
    have hwindow : (s.counted us r).pacing.window = s.pacing.window := by
      unfold State.counted
      cases lapses r.stamp s.clock.seconds <;> rfl
    rw [State.joinDue_eq (s := s.counted us r) hw hr, hwindow]
    simp only [due, tailDue]
    cases hlast : others.getLast? with
    | none => simp only [others] at hlast; rw [show (s.counted us r).store = s.store from rfl, hlast]; rfl
    | some k => simp only [others] at hlast; rw [show (s.counted us r).store = s.store from rfl, hlast]; rfl
  have hexec := exec_slotGrant_record hrun ha hsource
  refine ⟨s.emitted us r, hexec, rfl, ?_, ?_, fun howed => ?_, fun howed hheld => ?_, fun howed hlist hempty => ?_, fun k hk => ?_, rfl⟩
  · have hbody : s.emissionBody r = .grant r.key.product r.key.block r.map stamp.horizon
        (decide (r.place.listName = .revoking)) stamp.clamped (copies - 1) := by
      unfold State.emissionBody
      rw [hstamp, hcopies]
    unfold State.emitted
    dsimp only
    rw [State.granted_port (State.ranked_of_source hsource), hbody]
  · exact (s.counted_pacing us r).trans (ite_of_iff (lapses_iff r.stamp now) rfl rfl)
  · obtain ⟨n, hplace, hn⟩ := Place.eq_of_owed (hcopies ▸ howed)
    have hplaced := State.placed_owing (s := s) us hplace
    have hcopy : copies - 1 = n + 1 := by omega
    have hprompt := hw.erase_prompt hr (by simp [hplace, Place.listName])
    have hring := hw.erase_ring hr (by simp [hplace, Place.listName])
    unfold State.emitted
    dsimp only
    rw [hplaced, hsent, hcopy]
    refine ⟨(hw.find_placed hr (sent := sent) rfl _ r.key).trans (if_pos rfl), ?_⟩
    rw [State.withStore_store, hw.lists_placed hr (sent := sent) rfl]
    exact ⟨rfl, hring, hprompt, rfl, List.length_map .., rfl⟩
  · have hplaced := State.placed_joining (s := s) us (hcopies ▸ howed) hheld
    rw [hdue, hsent] at hplaced
    unfold State.emitted
    dsimp only
    rw [hplaced]
    refine ⟨(hw.find_placed hr (sent := sent) rfl _ r.key).trans (if_pos rfl), ?_⟩
    rw [State.withStore_store, hw.lists_placed hr (sent := sent) rfl]
    exact ⟨rfl, rfl, rfl, rfl, List.length_map .., rfl⟩
  · have hplaced := State.placed_freed (s := s) us (hcopies ▸ howed) hlist hempty
    obtain ⟨hfree, hlength, hprompt, hring, hrevoking, harmed⟩ := State.purgeRecord_spec hw hr
    unfold State.emitted
    dsimp only
    rw [hplaced]
    exact ⟨hfree, hring.trans (hw.erase_ring hr (by simp [hlist])), hprompt.trans (hw.erase_prompt hr (by simp [hlist])),
      hrevoking, hlength, harmed, rfl⟩
  · exact State.placed_find_ne us hw hr hk

end Sys2Proof.Machine
end

section
/-! PROOF. Layouts field by field, the carousel frame, and the frame clock (R96, R97, R182, R188, R189). -/

namespace Sys2Proof.Machine

/-! ### Fields one after another (R182) -/

/-- The bytes are laid out as the fields, wherever each number fits its width. -/
def Spells (bytes : List Byte) (fields : List (Nat × Nat)) : Prop := Fits fields → LaysOut bytes fields

namespace Spells

theorem nil : Spells [] [] := fun _ => rfl

/-- The last field stands without a rest. -/
theorem last {a : List Byte} {f : List (Nat × Nat)} (h : Spells (a ++ []) f) : Spells a f := by rwa [List.append_nil] at h

theorem append {a b : List Byte} {f g : List (Nat × Nat)} (ha : Spells a f) (hb : Spells b g) : Spells (a ++ b) (f ++ g) := by
  intro h
  obtain ⟨hf, hg⟩ := (Fits_append f g).mp h
  exact LaysOut_append a b f g (ha hf) (hb hg)

section
variable {rest : List Byte} {fields : List (Nat × Nat)} (h : Spells rest fields)
include h

theorem one {a : List Byte} {x : Nat × Nat} (ha : Spells a [x]) : Spells (a ++ rest) (x :: fields) := append ha h

theorem two {a : List Byte} {x y : Nat × Nat} (ha : Spells a [x, y]) : Spells (a ++ rest) (x :: y :: fields) := append ha h

theorem three {a : List Byte} {x y z : Nat × Nat} (ha : Spells a [x, y, z]) : Spells (a ++ rest) (x :: y :: z :: fields) :=
  append ha h

theorem four {a : List Byte} {x y z w : Nat × Nat} (ha : Spells a [x, y, z, w]) :
    Spells (a ++ rest) (x :: y :: z :: w :: fields) :=
  append ha h

/-- A run of bytes that spells a number of its own width. -/
theorem run {a : List Byte} {width value : Nat} (hlength : a.length = width) (hvalue : value < 256 ^ width → bigEndian a = value) :
    Spells (a ++ rest) ((width, value) :: fields) :=
  h.one fun hfits => LaysOut_one a width value hlength (hvalue (hfits _ List.mem_cons_self))

theorem byte {x : Byte} {n : Nat} (hx : x.toNat = n) : Spells (x :: rest) ((1, n) :: fields) :=
  h.run (a := [x]) rfl fun _ => by simpa [bigEndian] using hx

theorem code {x : Byte} : Spells (x :: rest) ((1, x.toNat) :: fields) := h.byte rfl

theorem ofNat {n : Nat} : Spells (BitVec.ofNat 8 n :: rest) ((1, n) :: fields) :=
  h.run (a := [BitVec.ofNat 8 n]) rfl fun hn => by simp [bigEndian]; omega

theorem yesNo {b : Bool} : Spells (Machine.yesNo b :: rest) ((1, b.toNat) :: fields) := h.byte (by cases b <;> rfl)

theorem choice {b : Bool} {x y : Byte} :
    Spells ((if b then x else y) :: rest) ((1, if b then x.toNat else y.toNat) :: fields) := h.byte (by cases b <;> rfl)

theorem flags {l : List Bool} : Spells (bitsByte l :: rest) (flagsOf l :: fields) := h.ofNat

theorem nat {width n : Nat} : Spells (natBytes width n ++ rest) ((width, n) :: fields) :=
  h.run (natBytes_length _ _) (bigEndian_natBytes width n)

theorem word16 {v : BitVec 16} : Spells (bytes16 v ++ rest) ((2, v.toNat) :: fields) := h.run rfl fun _ => bigEndian_bytes16 v

theorem word64 {v : BitVec 64} : Spells (bytes64 v ++ rest) ((8, v.toNat) :: fields) := h.run rfl fun _ => bigEndian_bytes64 v

theorem products {v : BitVec 48} : Spells (productSetBytes v ++ rest) ((6, v.toNat) :: fields) :=
  h.run rfl fun _ => bigEndian_productSetBytes v

end

end Spells

theorem secondBytes_length (n : Nat) : (secondBytes n).length = 4 := by
  unfold secondBytes
  split <;> simp [bytes32, bytes16]

theorem bigEndian_zeros (k : Nat) : bigEndian (List.replicate k 0) = 0 := by
  induction k with
  | zero => rfl
  | succ k ih =>
    rw [List.replicate_succ', bigEndian_append, ih]
    rfl

theorem bigEndian_ones (k : Nat) : bigEndian (List.replicate k 0xFF) = 256 ^ k - 1 := by
  induction k with
  | zero => rfl
  | succ k ih =>
    rw [List.replicate_succ', bigEndian_append, ih, Nat.pow_succ]
    have hpos := Nat.pow_pos (n := k) (show 0 < 256 by omega)
    simp [bigEndian]
    omega

namespace Spells

theorem zeros (width : Nat) {rest : List Byte} {fields : List (Nat × Nat)} (h : Spells rest fields) :
    Spells (List.replicate width 0 ++ rest) ((width, 0) :: fields) :=
  h.run List.length_replicate fun _ => bigEndian_zeros width

theorem absent (width : Nat) {rest : List Byte} {fields : List (Nat × Nat)} (h : Spells rest fields) :
    Spells (List.replicate width 0xFF ++ rest) (presentOr width none :: fields) :=
  h.run List.length_replicate fun _ => bigEndian_ones width

section
variable {rest : List Byte} {fields : List (Nat × Nat)} (h : Spells rest fields)
include h

theorem second {n : Nat} : Spells (secondBytes n ++ rest) ((4, n) :: fields) :=
  h.run (secondBytes_length n) fun hn => by
    unfold secondBytes
    rw [if_pos (show n ≤ maxSecond from Nat.le_of_lt_succ hn)]
    exact bigEndian_natBytes 4 n hn

theorem second? {o : Option Nat} : Spells (secondBytes? o ++ rest) (presentOr 4 o :: fields) :=
  match o with
  | some _ => h.second
  | none => .absent 4 h

end

end Spells

/-! ### The carousel frame (R188, R189) -/

theorem FrameBody.bytes_length (b : FrameBody) : b.bytes.length = 25 := by
  cases b with
  | filler => rfl
  | grant product block map horizon revokeCopy clamped copiesLeft =>
    simp [FrameBody.bytes, secondBytes_length, bytes64, bytes32, bytes16]
  | announce event state products blackout bound =>
    cases bound <;> simp [FrameBody.bytes, secondBytes_length, productSetBytes, bytes64, bytes32, bytes16]
  | time seconds ms locked => simp [FrameBody.bytes]

/-- A frame without its CRC. -/
def CarouselFrame.head (f : CarouselFrame) : List Byte := f.body.code :: (bytes16 f.seq ++ f.body.bytes)

theorem CarouselFrame.head_length (f : CarouselFrame) : f.head.length = 28 := by
  simp [CarouselFrame.head, FrameBody.bytes_length, bytes16]

theorem CarouselFrame.bytes_eq (f : CarouselFrame) : f.bytes = f.head ++ bytes32 (crc32 f.head) := rfl

theorem CarouselFrame.head_spells (f : CarouselFrame) : Spells f.head (carouselFields f) := by
  obtain ⟨seq, body⟩ := f
  unfold CarouselFrame.head
  cases body with
  | filler => exact .code <| .word16 <| .zeros 25 .nil
  | grant product block map horizon revokeCopy clamped copiesLeft =>
    simp only [FrameBody.bytes, List.append_assoc, List.cons_append, List.nil_append]
    exact .code <| .word16 <| .ofNat <| .nat <| .word64 <| .second <| .flags <| .ofNat <| .zeros 7 .nil
  | announce event state products blackout bound =>
    simp only [FrameBody.bytes, List.append_assoc, List.cons_append, List.nil_append]
    refine .code <| .word16 <| .ofNat <| .code <| .products <| .word64 <| .one (.zeros 5 .nil) ?_
    cases bound with
    | closedAt t => exact .last (.second .nil)
    | openEnd => exact .absent 4 .nil
    | noBound => exact .zeros 4 .nil
  | time seconds ms locked =>
    simp only [FrameBody.bytes, List.append_assoc, List.cons_append, List.nil_append]
    exact .code <| .word16 <| .nat <| .nat <| .yesNo <| .zeros 18 .nil

/-! ### The frame clock and starvation (R96, R97) -/

theorem exec_frameClock {s : State} (hrun : s.run = .running) : exec .frameClock s = .next (s.withPort s.port.clock) := by
  rw [exec_of_ownRow rfl, State.live_running s _ hrun]

/-- Settles O51: the layout field by field, and the two rows by their functions. -/
theorem frameClockAndStarvation : Obligations.FrameClockAndStarvation := by
  refine ⟨fun f => ?_, fun s f left hrun hshift hpos hle => ?_, fun s hrun hidle => ?_, fun s left hrun hleft => ?_⟩
  · have htake : f.bytes.take 28 = f.head := by
      rw [f.bytes_eq, List.take_left' f.head_length]
    have hdrop : f.bytes.drop 28 = bytes32 (crc32 f.head) := by
      rw [f.bytes_eq, List.drop_left' f.head_length]
    refine ⟨?_, ?_, ?_⟩
    · rw [f.bytes_eq, List.length_append, f.head_length]
      rfl
    · rw [hdrop, htake, bigEndian_bytes32]
    · rw [htake]
      exact f.head_spells
  · intro k bit
    rw [exec_frameClock hrun]
    unfold Port.clock
    rw [hshift]
    by_cases hlast : left = 1
    · simp only [if_pos hlast, if_pos (show left ≤ 1 by omega)]
      rfl
    · simp only [if_neg hlast, if_neg (show ¬left ≤ 1 by omega)]
      rfl
  · rw [exec_frameClock hrun]
    unfold Port.clock
    rw [hidle]
    rfl
  · rw [exec_of_ownRow rfl, State.live_running s _ hrun]
    unfold State.starve
    rw [hleft]
    rfl

end Sys2Proof.Machine
end

section
/-! PROOF. Order Link frames read back as their commands (R171, R182 to R185, R190). -/

namespace Sys2Proof.Machine

/-! ### Fields read back (R182) -/

/-- Two adjoining runs of bits are one. -/
theorem extractLsb'_join {w : Nat} (v : BitVec w) (start low high : Nat) :
    v.extractLsb' (start + low) high ++ v.extractLsb' start low = v.extractLsb' start (high + low) := by
  ext k hk
  rw [BitVec.getElem_append, BitVec.getElem_extractLsb']
  by_cases h : k < low
  · rw [dif_pos h, BitVec.getElem_extractLsb']
  · rw [dif_neg h, BitVec.getElem_extractLsb']
    congr 1
    omega

theorem extractLsb'_whole {w : Nat} (v : BitVec w) : v.extractLsb' 0 w = v := by
  ext k hk
  simp

theorem bytes16_join (v : BitVec 16) : v.extractLsb' 8 8 ++ v.extractLsb' 0 8 = v :=
  (extractLsb'_join v 0 8 8).trans (extractLsb'_whole v)

theorem bytes24_join (v : BitVec 24) : v.extractLsb' 16 8 ++ (v.extractLsb' 8 8 ++ v.extractLsb' 0 8) = v := by
  have hlow : v.extractLsb' 8 8 ++ v.extractLsb' 0 8 = v.extractLsb' 0 16 := extractLsb'_join v 0 8 8
  rw [hlow]
  exact (extractLsb'_join v 0 16 8).trans (extractLsb'_whole v)

section
variable (rest : List Byte)

theorem be16_bytes16 (v : BitVec 16) : be16 (bytes16 v ++ rest) 0 = v := bytes16_join v

theorem be24_bytes24 (v : BitVec 24) : be24 (bytes24 v ++ rest) 0 = v := bytes24_join v

theorem be32_bytes32 (v : BitVec 32) : be32 (bytes32 v ++ rest) 0 = v := by
  have hhigh : be16 (bytes32 v ++ rest) 0 = v.extractLsb' 16 16 := bytes16_join _
  have hlow : be16 (bytes32 v ++ rest) 2 = v.extractLsb' 0 16 := bytes16_join _
  unfold be32
  rw [hhigh, hlow]
  exact (extractLsb'_join v 0 16 16).trans (extractLsb'_whole v)

theorem be64_bytes64 (v : BitVec 64) : be64 (bytes64 v ++ rest) 0 = v := by
  have hhigh : be32 (bytes64 v ++ rest) 0 = v.extractLsb' 32 32 := be32_bytes32 _ _
  have hlow : be32 (bytes64 v ++ rest) 4 = v.extractLsb' 0 32 := be32_bytes32 rest _
  unfold be64
  rw [hhigh, hlow]
  exact (extractLsb'_join v 0 32 32).trans (extractLsb'_whole v)

end

theorem itemsOf_flatMap (items : List BatchEntry) :
    itemsOf (items.flatMap fun x => bytes32 x.addr ++ [x.product]) = items := by
  induction items with
  | nil => rfl
  | cons x items ih =>
    rw [List.flatMap_cons]
    exact congr (congrArg List.cons (congrArg (BatchEntry.mk · x.product) (be32_bytes32 [] x.addr))) ih

/-! ### Commands read back (R183) -/

theorem eventActionOf_openSale (h : Hdr) (i a : Byte) (ha : ¬(2 ≤ a.toNat ∧ a.toNat ≤ 7)) :
    eventActionOf h i a = .eventActionOpenSale h i a := by
  unfold eventActionOf
  split
  case h_7 => rfl
  all_goals omega

theorem commandOf_unknown (h : Hdr) (kind : Byte) (f : List Byte) (hkind : knownKind kind = false) :
    commandOf kind h f = .unknownKind h kind := by
  have hout : kind.toNat = 0 ∨ 0x1C < kind.toNat := by
    simp only [knownKind, Bool.and_eq_false_iff, decide_eq_false_iff_not] at hkind
    omega
  unfold commandOf
  split
  case h_29 => rfl
  all_goals omega

/-- The fields of a command whose operands agree with its row read back as the command. -/
theorem commandOf_linkFrame {c : Instr} {kind : Byte} {h : Hdr} {fields : List Byte} (hc : linkFrame c = some (kind, h, fields))
    (hok : c.operandsOk = true) : commandOf kind h fields = c := by
  cases c <;> cases hc <;> simp only [Instr.operandsOk, Bool.and_eq_true, Bool.not_eq_true', bne_iff_ne, beq_iff_eq] at hok
  case set id v => exact congrArg (Instr.set h id) (be32_bytes32 [] v)
  case clockSet sec ms => exact congr (congrArg (Instr.clockSet h) (be32_bytes32 [] sec)) (be16_bytes16 [] ms)
  case regionRuleSet form i p m r =>
    refine (if_neg hok).trans ?_
    show Instr.regionRuleSet h form i _ _ r = _
    rw [Instr.regionRuleSet.injEq]
    exact ⟨rfl, rfl, rfl, be24_bytes24 [] p, be24_bytes24 [] m, rfl⟩
  case event i so k e late grace allow =>
    show Instr.event h i _ _ _ _ _ _ = _
    rw [Instr.event.injEq]
    exact ⟨rfl, rfl, be32_bytes32 [] so, be32_bytes32 [] k, be32_bytes32 [] e, be16_bytes16 [] late, be16_bytes16 [] grace,
      be16_bytes16 [] allow⟩
  case eventTimes i so k e =>
    show Instr.eventTimes h i _ _ _ = _
    rw [Instr.eventTimes.injEq]
    exact ⟨rfl, rfl, be32_bytes32 [] so, be32_bytes32 [] k, be32_bytes32 [] e⟩
  case blackout i regions => exact congrArg (Instr.blackout h i) (be64_bytes64 [] regions)
  case cueBind line ev action level debounce => exact congrArg (Instr.cueBind h line ev action level) (be16_bytes16 [] debounce)
  case purchase addr p => exact congrArg (Instr.purchase h · p) (be32_bytes32 [] addr)
  case cancel addr p => exact congrArg (Instr.cancel h · p) (be32_bytes32 [] addr)
  case batchOpen op n => exact congrArg (Instr.batchOpen h op) (be16_bytes16 [] n)
  case batchData items => exact congrArg (Instr.batchData h) (itemsOf_flatMap items)
  case showRecord block p => exact congrArg (Instr.showRecord h · p) (be32_bytes32 [] block)
  case showDecoder addr => exact congrArg (Instr.showDecoder h) (be32_bytes32 [] addr)
  case productDefine form i k es => exact if_neg hok.1
  case cueClearUnbind line form => exact if_neg hok
  case maintenanceEnter form => exact if_neg hok
  case resetTables form => exact if_neg hok
  case regionRuleClear form i => exact if_pos hok
  case productDrop form i => exact if_pos hok
  case cueClearRelease line form => exact if_pos hok
  case maintenanceExit form => exact if_pos hok
  case resetFull form => exact if_pos hok
  case eventActionOpenSale i a => exact eventActionOf_openSale h i a (by simpa using hok)
  case unknownKind => exact commandOf_unknown h kind [] hok
  case eventActionKickoff | eventActionOvertime | eventActionSuspend | eventActionResume | eventActionFinish | eventActionVoid =>
    subst hok
    rfl
  all_goals rfl

theorem frame_readsBack (c : Instr) (kind : Byte) (h : Hdr) (fields : List Byte) (hc : linkFrame c = some (kind, h, fields))
    (hlen : h.len = fields.length + 2) (hw : c.wellFormed = true) :
    ∃ body, encodeFrame c = some body ∧ body.length = h.len ∧ decodeFrame body = some c := by
  have hok : c.operandsOk = true := by
    unfold Instr.wellFormed at hw
    exact (Bool.and_eq_true_iff.mp hw).2
  have hlength : (kind :: h.tag :: fields).length = h.len := hlen.symm
  refine ⟨kind :: h.tag :: fields, ?_, hlength, ?_⟩
  · unfold encodeFrame
    rw [hc]
    simp [hlen]
  · unfold decodeFrame
    dsimp only
    rw [hlength]
    exact congrArg some (commandOf_linkFrame hc hok)

end Sys2Proof.Machine
end

section
/-! PROOF. Replies and notices as tabled, and the characters of the Order Link bit by bit (R170, R171, R175, R185 to R187). -/

namespace Sys2Proof.Machine

/-! ### Replies field by field (R185, R186) -/

theorem Spells.of_items {α : Type} {l : List α} {bytes : α → List Byte} {fields : α → List (Nat × Nat)}
    (h : ∀ x ∈ l, Spells (bytes x) (fields x)) : Spells (l.flatMap bytes) (l.flatMap fields) := by
  induction l with
  | nil => exact .nil
  | cons x l ih =>
    rw [List.flatMap_cons, List.flatMap_cons]
    exact .append (h x List.mem_cons_self) (ih fun y hy => h y (List.mem_cons_of_mem x hy))

theorem Bound.spells (b : Bound) : Spells (boundBytes b) (boundFields b) := by
  cases b with
  | closedAt t => exact .byte (.last (.second .nil)) rfl
  | openEnd => exact .byte (.zeros 4 .nil) rfl
  | noBound => exact .byte (.zeros 4 .nil) rfl

/-- A notice record (R187). -/
theorem Notice.spells (n : Notice) : Spells n.bytes (noticeFields n) := by
  obtain ⟨kind, level, seconds, ms, subject, value⟩ := n
  simp only [Notice.bytes, noticeFields, List.append_assoc, List.cons_append, List.nil_append]
  refine .ofNat <| .ofNat <| .nat <| .nat <| .append ?_ ?_
  · cases subject with
    | none => exact .byte (.byte .nil rfl) rfl
    | event i => exact .byte (.ofNat .nil) rfl
    | line i => exact .byte (.ofNat .nil) rfl
    | product i => exact .byte (.ofNat .nil) rfl
  · cases value with
    | quantity k => exact .last (.nat .nil)
    | fault cause count => exact .code <| .zeros 2 <| .ofNat .nil
    | holdover link => exact .choice <| .zeros 3 .nil
    | standdown cue => exact .choice <| .zeros 3 .nil
    | resumed left => exact .code <| .zeros 3 .nil
    | eventState state cause => exact .code <| .code <| .zeros 2 .nil
    | requested action => exact .code <| .zeros 3 .nil
    | sweep kind changed => exact .code <| .last <| .nat .nil

/-- A field that is sent as all ones where it is absent. -/
theorem Spells.ofNat? {rest : List Byte} {fields : List (Nat × Nat)} (h : Spells rest fields) (o : Option Nat) :
    Spells ((o.map (BitVec.ofNat 8)).getD 0xFF :: rest) (presentOr 1 o :: fields) := by
  cases o with
  | none => exact .byte h rfl
  | some n => exact .ofNat h

/-- A line context (R186). -/
theorem CueLine.spells (l : CueLine) : Spells l.bytes (replyFields (.cueContext l)) := by
  obtain ⟨state, binding, episodes, lastCapture⟩ := l
  simp only [CueLine.bytes, replyFields, List.cons_append, List.nil_append]
  cases lastCapture with
  | none => exact .code <| .ofNat <| .byte (.absent 4 <| .absent 2 .nil) rfl
  | some x => exact .code <| .ofNat <| .choice <| .nat <| .last <| .nat .nil

/-- The STATUS reply (R186). -/
theorem StatusReport.spells (r : StatusReport) : Spells r.bytes (replyFields (.status r)) := by
  simp only [StatusReport.bytes, replyFields, List.append_assoc, List.cons_append, List.nil_append]
  exact .code <| .code <| .ofNat <| .ofNat <| .nat <| .nat <| .flags <| .ofNat <| .nat <| .nat <| .nat <| .nat <| .nat <|
    .nat <| .nat <| .nat <| .yesNo <| .ofNat <| .yesNo <|
    .byte (.flags <| .word16 <| .last <| .nat .nil) (by cases r.running <;> rfl)

/-- The SHOW EVENT reply (R186). -/
theorem showEvent_spells (i : Nat) (e : EventEntry) (bound : Bound) (mark : Option Mark) (products : BitVec 48)
    (lines : List (Nat × CueAction)) :
    Spells (showEventBytes i e bound mark products lines) (replyFields (.event i e bound mark products lines)) := by
  unfold showEventBytes
  simp only [replyFields, List.append_assoc, List.cons_append, List.nil_append]
  refine .ofNat <| .code <| .flags <| .second <| .second <| .second <| .nat <| .nat <| .nat <| .nat <| .second? <| .second? <|
    .three (.word64 <| .yesNo <| .second? <| .append bound.spells <| .two (.products <| .ofNat <| .of_items fun x _ => ?_) ?_) ?_
  · exact .ofNat <| .code .nil
  · cases mark with
    | none => exact .absent 1 <| .absent 4 .nil
    | some m => exact .code <| .last <| .second .nil
  · cases e.suspension with
    | none => exact .absent 4 <| .absent 2 <| .absent 1 .nil
    | some p => exact .second <| .nat <| .code .nil

/-- The SHOW RECORD reply (R186). -/
theorem showRecord_spells (r : GrantRecord) (position : Nat) :
    Spells (showRecordBytes r position) (replyFields (.record r position)) := by
  obtain ⟨key, map, place, stamp, emissions⟩ := r
  simp only [showRecordBytes, replyFields, List.append_assoc, List.cons_append, List.nil_append]
  refine .nat <| .ofNat <| .word64 <| .four (.two (.one (.last <| .nat .nil) ?_) ?_) ?_
  · cases place with
    | ring due => exact .last <| .second .nil
    | prompt => exact .absent 4 .nil
    | revoking n => exact .absent 4 .nil
  · cases stamp with
    | none => exact .absent 4 <| .absent 1 .nil
    | some p => exact .second <| .yesNo .nil
  · cases place with
    | prompt => exact .ofNat <| .nat <| .flags <| .absent 1 .nil
    | ring due => exact .ofNat <| .nat <| .flags <| .absent 1 .nil
    | revoking n => exact .ofNat <| .nat <| .flags <| .ofNat .nil

/-- The products with a horizon among the records of a decoder, gathered one by one (R185). -/
theorem foldl_products (entries : List (Nat × ListName × Option Nat)) (v : BitVec 48) {p : Nat} (hp : p < 48) :
    (entries.foldl (fun v x => if x.2.2.isSome then v ||| BitVec.twoPow 48 x.1 else v) v).getLsbD p =
      (v.getLsbD p || entries.any fun x => x.1 == p && x.2.2.isSome) := by
  induction entries generalizing v with
  | nil => simp
  | cons x entries ih =>
    rw [List.foldl_cons, ih, List.any_cons]
    cases x.2.2.isSome with
    | false => simp
    | true =>
      have hbit : (BitVec.twoPow 48 x.1).getLsbD p = (x.1 == p) := by
        rw [BitVec.getLsbD_twoPow, Bool.eq_iff_iff]
        simp only [Bool.and_eq_true, decide_eq_true_eq, beq_iff_eq]
        omega
      rw [if_pos rfl, BitVec.getLsbD_or, hbit, Bool.and_true, Bool.or_assoc]

/-- The SHOW DECODER reply (R185). -/
theorem showDecoder_spells (entries : List (Nat × ListName × Option Nat)) :
    Spells (showDecoderBytes entries) (replyFields (.decoder entries)) := by
  have hset : entries.foldl (fun v x => if x.2.2.isSome then v ||| BitVec.twoPow 48 x.1 else v) 0 =
      setOf 48 fun p => entries.any fun x => x.1 == p && x.2.2.isSome := by
    refine BitVec.eq_of_getLsbD_eq fun p hp => ?_
    rw [foldl_products entries 0 hp, setOf_getLsbD]
    simp [hp]
  simp only [showDecoderBytes, replyFields, List.cons_append, List.nil_append]
  rw [hset]
  exact .ofNat <| .products <| .of_items fun x _ => .ofNat <| .last <| .second? .nil

/-- The batch summary (R190). -/
theorem summary_spells (flag : SummaryFlag) (b : Batch) : Spells (summaryBytes flag b) (replyFields (.summary flag b)) := by
  simp only [summaryBytes, replyFields, List.append_assoc, List.cons_append, List.nil_append]
  exact .code <| .code <| .choice <| .nat <| .nat <| .nat <| .nat <| .nat <| .nat <| .nat <| .nat <| .nat <| .nat <| .nat <|
    .nat <| .nat <| .ofNat <| .of_items fun x _ => .nat <| .code .nil

theorem ReplyFields.spells (r : ReplyFields) : Spells r.bytes (replyFields r) := by
  cases r with
  | none => exact .nil
  | settingWritten id v => exact .code <| .last <| .nat .nil
  | settingRead id v w => exact .code <| .nat <| .last <| .nat .nil
  | seconds s => exact .last <| .second .nil
  | eventAction state bound => exact .code bound.spells
  | batchOpened cancels n => exact .choice <| .last <| .nat .nil
  | cueContext l => exact l.spells
  | keepalive challenge parts => exact .ofNat <| .ofNat .nil
  | purchase partly region list =>
    have hlist : (list.map fun l => BitVec.ofNat 8 l.code).getD 0xFF = ((list.map ListName.code).map (BitVec.ofNat 8)).getD 0xFF := by
      rw [Option.map_map]
      rfl
    simp only [ReplyFields.bytes, hlist]
    exact .yesNo <| .ofNat? (.ofNat? .nil _) _
  | cancelled copies empty => exact .ofNat <| .yesNo .nil
  | status r => exact r.spells
  | event i e bound mark products lines => exact showEvent_spells i e bound mark products lines
  | product i d records events =>
    simp only [ReplyFields.bytes, replyFields, List.append_assoc, List.cons_append, List.nil_append]
    refine .ofNat <| .byte (.byte (.append d.bound.spells <| .nat <| .ofNat <| .of_items fun x _ => ?_)
      (by cases d.life <;> rfl)) (by cases d.kind <;> rfl)
    exact .ofNat <| .byte x.2.2.spells (by cases x.2.1 <;> rfl)
  | record r position => exact showRecord_spells r position
  | decoder entries => exact showDecoder_spells entries
  | notices taken remaining overflow => exact .ofNat <| .ofNat <| .yesNo <| .of_items fun n _ => n.spells
  | summary flag b => exact summary_spells flag b

theorem Reply.spells (r : Reply) :
    Spells r.body ([(1, r.kind.toNat), (1, r.tag.toNat), (1, r.status.code.toNat)] ++ replyFields r.fields) :=
  .code <| .code <| .code r.fields.spells

/-! ### Characters (R170) -/

/-- The data bits of a byte, least significant first. -/
def dataBits (b : Byte) : List Bool := (List.range 8).map fun k => b.getLsbD k

theorem dataBits_length (b : Byte) : (dataBits b).length = 8 := rfl

theorem characterBits_eq (b : Byte) : characterBits b = false :: (dataBits b ++ [true]) := rfl

theorem dataBits_getElem? (b : Byte) {k : Nat} (hk : k < 8) : (dataBits b)[k]? = some (b.getLsbD k) := by
  simp [dataBits, List.getElem?_range hk]

theorem testBit_flags (l : List Bool) (k : Nat) :
    (l.foldr (fun (b : Bool) n => b.toNat + 2 * n) 0).testBit k = l.getD k false := by
  induction l generalizing k with
  | nil => simp
  | cons b l ih =>
    rw [List.foldr_cons]
    cases k with
    | zero =>
      rw [Nat.testBit_zero]
      cases b <;> simp
    | succ k =>
      rw [Nat.testBit_succ, List.getD_cons_succ, ← ih]
      congr 1
      cases b <;> simp
      omega

theorem bitsByte_getLsbD (l : List Bool) {k : Nat} (hk : k < 8) : (bitsByte l).getLsbD k = l.getD k false := by
  unfold bitsByte
  rw [BitVec.getLsbD_ofNat, testBit_flags]
  simp [hk]

theorem bitsByte_dataBits (b : Byte) : bitsByte (dataBits b) = b := by
  refine BitVec.eq_of_getLsbD_eq fun k hk => ?_
  rw [bitsByte_getLsbD _ hk, List.getD_eq_getElem?_getD, dataBits_getElem? b hk]
  rfl

theorem dataBits_bitsByte {l : List Bool} (hl : l.length = 8) : dataBits (bitsByte l) = l := by
  refine List.ext_getElem? fun k => ?_
  by_cases hk : k < 8
  · rw [dataBits_getElem? _ hk, bitsByte_getLsbD l hk, List.getD_eq_getElem?_getD,
      List.getElem?_eq_getElem (by omega)]
    rfl
  · rw [List.getElem?_eq_none (by rw [dataBits_length]; omega), List.getElem?_eq_none (by omega)]

/-- Ten bit times carry a byte just where they are its character. -/
theorem byteOfCharacter_iff (b : Byte) (bits : List Bool) : byteOfCharacter bits = some b ↔ bits = characterBits b := by
  constructor
  · intro h
    unfold byteOfCharacter at h
    split at h
    next rest =>
      split at h
      next hform =>
        obtain ⟨hlength, hstop⟩ := hform
        have hsplit : rest = rest.take 8 ++ [true] := by
          obtain ⟨front, rfl⟩ := List.getLast?_eq_some_iff.mp hstop
          rw [List.take_left' (by simpa using hlength)]
        cases h
        rw [characterBits_eq, dataBits_bitsByte (by rw [List.length_take]; omega), ← hsplit]
      · cases h
    · cases h
  · rintro rfl
    have hdata : (dataBits b ++ [true]).take 8 = dataBits b := List.take_left' (dataBits_length b)
    have hform : (dataBits b ++ [true]).length = 9 ∧ (dataBits b ++ [true]).getLast? = some true := ⟨rfl, List.getLast?_concat ..⟩
    rw [characterBits_eq]
    unfold byteOfCharacter
    dsimp only
    rw [if_pos hform, hdata, bitsByte_dataBits]

/-- The levels of a frame, ten to a byte. -/
theorem levels_getElem? (bytes : List Byte) {n k : Nat} {b : Byte} (hb : bytes[n]? = some b) (hk : k < 10) :
    (bytes.flatMap characterBits)[10 * n + k]? = (characterBits b)[k]? := by
  have hlength (b : Byte) : (characterBits b).length = 10 := rfl
  induction bytes generalizing n with
  | nil => simp at hb
  | cons x bytes ih =>
    rw [List.flatMap_cons]
    cases n with
    | zero =>
      cases hb
      rw [Nat.mul_zero, Nat.zero_add, List.getElem?_append_left (by rw [hlength]; exact hk)]
    | succ n =>
      rw [List.getElem?_append_right (by rw [hlength]; omega), hlength, ← ih (by simpa using hb)]
      congr 1
      omega

theorem State.olTxd_idle {s : State} (h : s.run ≠ .running ∨ s.link.tx = []) (k : Nat) : s.olTxd k = true := by
  unfold State.olTxd
  split
  next hrun htx =>
    rcases h with h | h
    · exact absurd hrun h
    · rw [htx] at h
      cases h
  · rfl

theorem State.olTxd_sending {s : State} {o : Outgoing} {rest : List Outgoing} {n k : Nat} {b : Byte} (hrun : s.run = .running)
    (htx : s.link.tx = o :: rest) (hb : (linkFrameBytes o.reply.body)[n]? = some b) (hk : k < 10) :
    some (s.olTxd (10 * n + k)) = (characterBits b)[k]? := by
  have hlevel := levels_getElem? _ hb hk
  have hin : (characterBits b)[k]? = some (characterBits b)[k] := List.getElem?_eq_getElem hk
  unfold State.olTxd linkFrameLevels
  rw [hrun, htx]
  dsimp only
  rw [List.getD_eq_getElem?_getD, hlevel, hin]
  rfl

/-- Settles O60: frames by `frame_readsBack`, replies by `Reply.spells`, characters by `byteOfCharacter_iff`. -/
theorem framesReadBackAsTheirCommands : Obligations.FramesReadBackAsTheirCommands := by
  refine ⟨frame_readsBack, fun r => r.spells, ⟨rfl, rfl, rfl, rfl⟩,
    ⟨rfl, rfl, rfl, rfl, rfl, rfl, rfl, rfl, rfl, rfl, rfl, fun _ _ _ => rfl, fun _ => rfl, rfl⟩, fun body hbody => ?_, fun b => ?_,
    fun s h => State.olTxd_idle h, fun s o rest n k b hrun htx hb hk => State.olTxd_sending hrun htx hb hk⟩
  · exact ⟨BitVec.ofNat 8 body.length, _, _, rfl, by rw [BitVec.toNat_ofNat]; omega, bytes16_join _⟩
  · refine ⟨rfl, rfl, List.getLast?_concat .., fun k hk => ?_, byteOfCharacter_iff b⟩
    rw [characterBits_eq, List.getElem?_cons_succ, List.getElem?_append_left (by rw [dataBits_length]; exact hk),
      dataBits_getElem? b hk]

end Sys2Proof.Machine
end

section
/-! PROOF. Event actions, the bound of a product, and what the report of an event brings about (R3 to R13, R17, R22, R23,
R113, R114). -/

namespace Sys2Proof.Machine

/-! ### The bound of a product (R22) -/

theorem Bound.join_eq_openEnd {x y : Bound} : x.join y = .openEnd ↔ x = .openEnd ∨ y = .openEnd := by
  cases x <;> cases y <;> simp [Bound.join]

theorem Bound.join_eq_noBound {x y : Bound} : x.join y = .noBound ↔ x = .noBound ∧ y = .noBound := by
  cases x <;> cases y <;> simp [Bound.join]

/-- A closed value of a join is one of the two, and neither is greater. -/
theorem Bound.join_eq_closedAt {x y : Bound} {b : Nat} (h : x.join y = .closedAt b) :
    (x = .closedAt b ∨ y = .closedAt b) ∧ (∀ a, x = .closedAt a → a ≤ b) ∧ (y = .noBound ∨ ∃ a, y = .closedAt a ∧ a ≤ b) := by
  cases x <;> cases y <;> simp [Bound.join] at h ⊢ <;> omega

theorem productBound_cons (s : State) (i : Nat) (events : List Nat) :
    productBound s (i :: events) = (s.eventBound i).join (productBound s events) := rfl

theorem productBound_eq_openEnd (s : State) (events : List Nat) :
    productBound s events = .openEnd ↔ ∃ i ∈ events, s.eventBound i = .openEnd := by
  induction events with
  | nil => simp [productBound]
  | cons i events ih =>
    rw [productBound_cons, Bound.join_eq_openEnd, ih]
    simp only [List.mem_cons, exists_eq_or_imp]

theorem productBound_eq_noBound (s : State) (events : List Nat) :
    productBound s events = .noBound ↔ ∀ i ∈ events, s.eventBound i = .noBound := by
  induction events with
  | nil => simp [productBound]
  | cons i events ih => rw [productBound_cons, Bound.join_eq_noBound, ih, List.forall_mem_cons]

/-- A closed bound of a product is the greatest of its events' closed bounds. -/
theorem productBound_closedAt {s : State} {events : List Nat} {b : Nat} (h : productBound s events = .closedAt b) :
    (∃ i ∈ events, s.eventBound i = .closedAt b) ∧ ∀ i ∈ events, ∀ a, s.eventBound i = .closedAt a → a ≤ b := by
  induction events generalizing b with
  | nil => cases h
  | cons i events ih =>
    rw [productBound_cons] at h
    obtain ⟨hone, hfirst, hrest⟩ := Bound.join_eq_closedAt h
    refine ⟨?_, fun j hj a ha => ?_⟩
    · rcases hone with hone | hone
      · exact ⟨i, List.mem_cons_self, hone⟩
      · obtain ⟨⟨j, hj, hbound⟩, -⟩ := ih hone
        exact ⟨j, List.mem_cons_of_mem i hj, hbound⟩
    · rcases List.mem_cons.mp hj with rfl | hj
      · exact hfirst a ha
      · rcases hrest with hnone | ⟨c, hc, hle⟩
        · rw [(productBound_eq_noBound s events).mp hnone j hj] at ha
          cases ha
        · obtain ⟨-, hall⟩ := ih hc
          exact Nat.le_trans (hall j hj a ha) hle

theorem productBound_greatest {s : State} {events : List Nat} {i b : Nat} (hopen : ¬∃ j ∈ events, s.eventBound j = .openEnd)
    (hi : i ∈ events) (hb : s.eventBound i = .closedAt b)
    (hall : ∀ j ∈ events, ∀ b', s.eventBound j = .closedAt b' → b' ≤ b) : productBound s events = .closedAt b := by
  cases hbound : productBound s events with
  | openEnd => exact absurd ((productBound_eq_openEnd s events).mp hbound) hopen
  | noBound =>
    rw [(productBound_eq_noBound s events).mp hbound i hi] at hb
    cases hb
  | closedAt c =>
    obtain ⟨⟨j, hj, hc⟩, hle⟩ := productBound_closedAt hbound
    rw [Nat.le_antisymm (hall j hj c hc) (hle i hi b hb)]

theorem Bound.grows_iff (x y : Bound) :
    x.grows y = true ↔ ∃ a, x = .closedAt a ∧ (y = .openEnd ∨ ∃ b, y = .closedAt b ∧ a < b) := by
  cases x <;> cases y <;> simp [Bound.grows]

/-! ### Event actions (R6 to R13, R17) -/

/-- EVENT ACTION, KIND 0x10, is served in SERVING and MAINTENANCE (R176). -/
theorem modeServes_action {m : Mode} (hm : m = .serving ∨ m = .maintenance) : modeServes m 0x10 = true := by
  rcases hm with rfl | rfl <;> decide

theorem actionCommand_serves {h : Hdr} {idx : BitVec 8} {a : Action} {c : Instr} (hc : actionCommand h idx a = some c)
    {m : Mode} (hm : m = .serving ∨ m = .maintenance) (hlen : h.len = 4) : servedIn m c = true ∧ lengthOk c = true := by
  have hserves := modeServes_action hm
  cases a <;> cases hc <;> exact ⟨hserves, by simp [lengthOk, hlen]⟩

/-- The rule of an event action with an index of the table and no pass in progress. -/
theorem eventActionRule_of_index {a : Action} {idx : BitVec 8} {s : State} (hidx : idx.toNat < 32)
    (hpass : s.finishPass = s) :
    eventActionRule a idx a.code s =
      (s.event? idx.toNat).elim (plainReply .noEvent s) fun x =>
        (entryAfter x a s.clock.seconds s.clock.ms).elim (plainReply .wrongState s) fun y =>
          (some (.done, .eventAction y.1.state y.1.bound), s.transition idx.toNat y.1 y.2 .command) := by
  have hfields : ¬(decide (32 ≤ idx.toNat) || a.code != a.code) = true := by
    simp only [bne_self_eq_false, Bool.or_false, decide_eq_true_eq]
    omega
  unfold eventActionRule State.requestAction
  rw [if_neg hfields, hpass]
  dsimp only
  cases hx : s.event? idx.toNat with
  | none => rfl
  | some x =>
    rw [Option.isNone_some, if_neg Bool.false_ne_true]
    dsimp only [Option.elim_some]
    rw [EventEntry.act_command]
    cases entryAfter x a s.clock.seconds s.clock.ms with
    | none => rfl
    | some y =>
      obtain ⟨hevent, -⟩ := s.transition_spec idx.toNat y.1 y.2 .command (s.event?_lt _ _ hx)
      dsimp only [Option.map_some, Option.elim_some]
      rw [hevent]

/-! ### Reports (R22, R23, R113, R114) -/

/-- A table entry after the report of event i. -/
def ProductEntry.reported (s : State) (i : Nat) (x : ProductEntry) : ProductEntry :=
  { x with defn := x.defn.map fun d => if i ∈ d.events then d.recompute s else d }

/-- A walker after a request, which over no product is none. -/
def Walker.ask (w : Walker) (k : JobKind) (products : BitVec 48) : Walker :=
  if products = 0 then w else w.request k products

theorem State.requestJob_walker (s : State) (k : JobKind) (products : BitVec 48) :
    (s.requestJob k products).walker = s.walker.ask k products := by
  unfold State.requestJob Walker.ask
  split <;> rfl

/-- The three requests of a report, VOID and PURGE in either order (log 7). -/
theorem State.requestJobs_walker (s : State) (void purge extend : BitVec 48) :
    (s.requestJobs void purge extend).walker = ((s.walker.ask .void void).ask .purge purge).ask .extend extend ∨
    (s.requestJobs void purge extend).walker = ((s.walker.ask .purge purge).ask .void void).ask .extend extend := by
  unfold State.requestJobs
  dsimp only
  split
  · split
    · exact .inl (by simp only [State.requestJob_walker])
    · exact .inr (by simp only [State.requestJob_walker])
  · exact .inl (by simp only [State.requestJob_walker])

theorem State.reportEvent_products (s : State) (i : Nat) :
    (s.reportEvent i).products = s.products.map (ProductEntry.reported s i) := by
  have hentries : (s.products.map fun x =>
      match x.defn with
      | some d => if d.events.contains i then { x with defn := some (d.recompute s) } else x
      | none => x) = s.products.map (ProductEntry.reported s i) := by
    refine List.map_congr_left fun x _ => ?_
    obtain ⟨defn, records⟩ := x
    unfold ProductEntry.reported
    cases defn with
    | none => rfl
    | some d =>
      simp only [List.contains_iff_mem, Option.map_some]
      split <;> rfl
  unfold State.reportEvent
  dsimp only
  split
  · exact hentries
  · rw [State.requestJobs_eq]
    exact hentries

theorem State.reportEvent_product? (s : State) (i p : Nat) :
    (s.reportEvent i).product? p = (s.product? p).map fun d => if i ∈ d.events then d.recompute s else d := by
  unfold State.product?
  rw [State.reportEvent_products, List.getD_eq_getElem?_getD, List.getD_eq_getElem?_getD, List.getElem?_map]
  cases s.products[p]? <;> rfl

theorem State.reportEvent_records (s : State) (i p : Nat) :
    ((s.reportEvent i).products.getD p ⟨none, 0⟩).records = (s.products.getD p ⟨none, 0⟩).records := by
  rw [records_getD, records_getD, State.reportEvent_counts]

/-- A report in CONFIGURING requests no job. -/
theorem State.reportEvent_configuring {s : State} (h : s.sup.mode = .configuring) (i : Nat) :
    (s.reportEvent i).walker = s.walker ∧ (s.reportEvent i).choices = s.choices := by
  unfold State.reportEvent
  dsimp only
  rw [if_pos h]
  exact ⟨rfl, rfl⟩

/-- The products over which a report requests VOID, PURGE and EXTEND (R23). -/
def State.voidSet (s : State) (i : Nat) : BitVec 48 := s.reportedSet i fun d => d.dies s && d.events.all s.isVoid

def State.purgeSet (s : State) (i : Nat) : BitVec 48 := s.reportedSet i fun d => d.dies s && !d.events.all s.isVoid

def State.extendSet (s : State) (i : Nat) : BitVec 48 :=
  s.reportedSet i fun d => d.life == .alive && !d.dies s && d.bound.grows (productBound s d.events)

/-- A report outside CONFIGURING requests its jobs. -/
theorem State.reportEvent_walker {s : State} (h : s.sup.mode ≠ .configuring) (i : Nat) :
    (s.reportEvent i).walker =
      ((s.walker.ask .void (s.voidSet i)).ask .purge (s.purgeSet i)).ask .extend (s.extendSet i) ∨
    (s.reportEvent i).walker =
      ((s.walker.ask .purge (s.purgeSet i)).ask .void (s.voidSet i)).ask .extend (s.extendSet i) := by
  unfold State.reportEvent
  dsimp only
  rw [if_neg h]
  exact State.requestJobs_walker _ (s.voidSet i) (s.purgeSet i) (s.extendSet i)

theorem State.reportedSet_iff (s : State) (i : Nat) (f : ProductDef → Bool) {p : Nat} (hp : p < 48) :
    (s.reportedSet i f).getLsbD p = true ↔ ∃ d, s.product? p = some d ∧ i ∈ d.events ∧ f d = true := by
  unfold State.reportedSet
  rw [setOf_getLsbD]
  cases s.product? p <;> simp [hp]

theorem ProductDef.dies_iff (s : State) (d : ProductDef) :
    d.dies s = true ↔ d.life = .alive ∧ ∀ j ∈ d.events, s.isOver j = true := by
  simp [ProductDef.dies]

section
variable (s : State) (i : Nat) {p : Nat} (hp : p < 48)
include hp

theorem State.voidSet_iff :
    (s.voidSet i).getLsbD p = true ↔
      ∃ d, s.product? p = some d ∧ i ∈ d.events ∧ d.life = .alive ∧ ∀ j ∈ d.events, s.isVoid j = true := by
  have hover (j : Nat) (h : s.isVoid j = true) : s.isOver j = true := by
    obtain ⟨e, he, hstate⟩ := (s.isVoid_iff j).mp h
    exact (s.isOver_iff j).mpr ⟨e, he, .inr hstate⟩
  unfold State.voidSet
  rw [s.reportedSet_iff i _ hp]
  refine exists_congr fun d => and_congr_right fun _ => and_congr_right fun _ => ?_
  rw [Bool.and_eq_true, d.dies_iff, List.all_eq_true, and_assoc]
  exact and_congr_right fun _ => ⟨fun h => h.2, fun h => ⟨fun j hj => hover j (h j hj), h⟩⟩

theorem State.purgeSet_iff :
    (s.purgeSet i).getLsbD p = true ↔
      ∃ d, s.product? p = some d ∧ i ∈ d.events ∧ d.life = .alive ∧ (∀ j ∈ d.events, s.isOver j = true) ∧
        ∃ j ∈ d.events, ¬s.isVoid j = true := by
  unfold State.purgeSet
  rw [s.reportedSet_iff i _ hp]
  refine exists_congr fun d => and_congr_right fun _ => and_congr_right fun _ => ?_
  rw [Bool.and_eq_true, d.dies_iff, Bool.not_eq_true', ← Bool.not_eq_true, List.all_eq_true, and_assoc]
  simp only [Classical.not_forall, exists_prop]

theorem State.extendSet_iff :
    (s.extendSet i).getLsbD p = true ↔
      ∃ d, s.product? p = some d ∧ i ∈ d.events ∧ d.life = .alive ∧ (∃ j ∈ d.events, ¬s.isOver j = true) ∧
        ∃ a, d.bound = .closedAt a ∧
          (productBound s d.events = .openEnd ∨ ∃ b, productBound s d.events = .closedAt b ∧ a < b) := by
  unfold State.extendSet
  rw [s.reportedSet_iff i _ hp]
  refine exists_congr fun d => and_congr_right fun _ => and_congr_right fun _ => ?_
  rw [Bool.and_eq_true, Bool.and_eq_true, beq_iff_eq, Bool.not_eq_true', ← Bool.not_eq_true, d.dies_iff, Bound.grows_iff,
    and_assoc]
  refine and_congr_right fun hlife => and_congr_left' ?_
  simp only [hlife, true_and, Classical.not_forall, exists_prop]

end

theorem Life.eq_dead {l : Life} (h : l ≠ .alive) : l = .dead := by
  cases l with
  | alive => exact absurd rfl h
  | dead => rfl

/-- The life of a recomputed product (R23). -/
theorem ProductDef.recompute_life (s : State) (d : ProductDef) :
    ((∀ j ∈ d.events, s.isOver j = true) → (d.recompute s).life = .dead) ∧
    (¬(∀ j ∈ d.events, s.isOver j = true) → (d.recompute s).life = d.life) := by
  refine ⟨fun hover => ?_, fun hopen => if_neg fun hdies => hopen ((d.dies_iff s).mp hdies).2⟩
  by_cases hdies : d.dies s = true
  · exact if_pos hdies
  · exact (if_neg hdies).trans (Life.eq_dead fun hlife => hdies ((d.dies_iff s).mpr ⟨hlife, hover⟩))

/-- Settles O18: the action by its rule, the bound by its events, and the report by its products and its requests. -/
theorem eventActionsTransitionTheEvent : Obligations.EventActionsTransitionTheEvent := by
  refine ⟨fun h idx action s hready hmode hlen hcode => ?_, fun h idx a c s hc hready hmode hlen => ?_,
    fun s events => ⟨fun hopen => (productBound_eq_openEnd s events).mpr hopen,
      fun i b hopen hi hb hall => productBound_greatest hopen hi hb hall,
      fun hnone => (productBound_eq_noBound s events).mpr hnone⟩,
    fun s i => ?_⟩
  · intro c
    refine serve_plainReply c (eventActionRule .openSale idx action) s _ _ hready (modeServes_action hmode)
      (by simp [c, lengthOk, hlen]) (if_pos ?_)
    rw [Bool.or_eq_true, bne_iff_ne]
    exact .inr hcode
  · intro u
    obtain ⟨hserves, hlength⟩ := actionCommand_serves hc hmode hlen
    have hserved (t : State) (status : Status) (fields : ReplyFields)
        (hrule : eventActionRule a idx a.code u = (some (status, fields), t)) : exec c s = .next (t.answer c status fields) :=
      (exec_actionCommand hc s).trans (serve_reply c _ s t status fields hready hserves hlength hrule)
    refine ⟨fun hidx => hserved u .badField .none (if_pos (by simp [hidx])), fun hidx hpass => ?_⟩
    have hrule := eventActionRule_of_index (a := a) (s := u) hidx (s.finishPass_taken_idle c hpass)
    rw [show u.clock = s.clock by simp [u], show u.event? = s.event? by simp [u]] at hrule
    cases hx : s.event? idx.toNat with
    | none =>
      rw [hx] at hrule
      exact hserved _ _ _ hrule
    | some x =>
      rw [hx] at hrule
      dsimp only [Option.elim_some] at hrule ⊢
      cases hy : entryAfter x a s.clock.seconds s.clock.ms with
      | none =>
        rw [hy] at hrule
        exact hserved _ _ _ hrule
      | some y =>
        obtain ⟨y, cut⟩ := y
        rw [hy] at hrule
        exact ⟨_, hserved _ _ _ hrule, u.transition_spec idx.toNat y cut .command
          (u.event?_lt idx.toNat x (by rw [show u.event? = s.event? by simp [u]]; exact hx))⟩
  · intro t void finished request
    have hvoid (j : Nat) : s.isVoid j = true ↔ void j := s.isVoid_iff j
    have hfinished (j : Nat) : s.isOver j = true ↔ finished j := by
      rw [s.isOver_iff]
      simp only [finished, void]
      constructor
      · rintro ⟨e, he, hstate | hstate⟩
        · exact .inr ⟨e, he, hstate⟩
        · exact .inl ⟨e, he, hstate⟩
      · rintro (⟨e, he, hstate⟩ | ⟨e, he, hstate⟩)
        · exact ⟨e, he, .inr hstate⟩
        · exact ⟨e, he, .inl hstate⟩
    have hrequest (w : Walker) (k : JobKind) (v : BitVec 48) : request w k v = w.ask k v := by
      simp only [request]
      unfold Walker.ask Walker.request Walker.withPendingOf Walker.pendingOf
      cases w.running <;> cases k <;> rfl
    refine ⟨s.reportEvent_eq i, ?_, s.reportEvent_records i, fun p hnone => ?_, fun p d hd hi => ?_, fun p d hd hi => ?_,
      fun hmode => State.reportEvent_configuring hmode i, fun hmode => ?_⟩
    · rw [State.reportEvent_products, List.length_map]
    · rw [State.reportEvent_product?, hnone]
      rfl
    · rw [State.reportEvent_product?, hd, Option.map_some, if_neg hi]
    · obtain ⟨hdead, hkept⟩ := d.recompute_life s
      refine ⟨(d.recompute s).life, ?_, fun hall => hdead fun j hj => (hfinished j).mpr (hall j hj),
        fun hnot => hkept fun hall => hnot fun j hj => (hfinished j).mp (hall j hj)⟩
      rw [State.reportEvent_product?, hd, Option.map_some, if_pos hi]
      rfl
    · refine ⟨s.voidSet i, s.purgeSet i, s.extendSet i, fun p hp => ?_, ?_⟩
      · intro concerned
        simp only [concerned, ← hvoid, ← hfinished]
        exact ⟨s.voidSet_iff i hp, s.purgeSet_iff i hp, s.extendSet_iff i hp⟩
      · simp only [hrequest]
        exact State.reportEvent_walker hmode i

end Sys2Proof.Machine
end
